-- ==== Sys2Proof/Word.lean ====
section
/-! DEFINITION. The words of the block: store bytes, register words, transaction words and channel codes. -/

namespace Sys2Proof

/-- One cell's content in the frame store (00_scope.md R11: one byte per stored channel value). -/
abbrev Byte := BitVec 8

/-- A register word of the host bus (20_memory.md R52: every transaction moves 32 bits). -/
abbrev Word := BitVec 32

/-- A host transaction word `W`, bus_sel and bus_we, bus_addr, bus_wdata from the top (30_encoding.md R64). -/
abbrev TxWord := BitVec 38

/-- A channel code on a DAC port (00_scope.md R11: the channel width is 6 bits). -/
abbrev Code := BitVec 6

end Sys2Proof
end

