-- ==== Sys2Proof/Config.lean ====
section
/-! DEFINITION. The build parameters of the block (00_scope.md R9) and the free values of the model. -/

namespace Sys2Proof

/-- The implementation parameters, fixed at build time (00_scope.md R9). A state carries them (log entry 1),
so every statement about all states is about all configurations. -/
structure Config where
  /-- `N`, pixels per revolution and frame length in pixels. -/
  n : Nat
  /-- `F_CLK`, block clock frequency in Hz; used by the FPS estimate only. -/
  fClk : Nat
  /-- `P_MIN`, shortest plausible revolution period in cycles. -/
  pMin : Nat
  /-- `P_MAX`, longest plausible revolution period and the timeout window in cycles. -/
  pMax : Nat
  /-- `E_MAX`, largest drift correction per revolution in pixels. -/
  eMax : Nat
  /-- `PHASE_OFFSET_RST`, reset value of CTRL.PHASE_OFFSET in pixel ticks. -/
  phaseOffsetRst : Nat
  /-- `FPS_SHIFT`, smoothing shift of the FPS estimate. -/
  fpsShift : Nat
deriving DecidableEq, Repr

/-- The default column of 00_scope.md R9. DESIGN CHOICE (log entry 1): the configuration of `State.reset`. -/
def Config.defaults : Config :=
  { n := 1024, fClk := 1000000, pMin := 2000, pMax := 100000, eMax := 64, phaseOffsetRst := 0, fpsShift := 3 }

/-- The small configuration of 40_pulse_timer.md and 95_test_vectors.md section 0. -/
def Config.small : Config :=
  { n := 4, fClk := 1000, pMin := 8, pMax := 40, eMax := 2, phaseOffsetRst := 0, fpsShift := 3 }

/-- Bytes in one slot, `3·N` (00_scope.md R11). -/
def Config.slotBytes (c : Config) : Nat := 3 * c.n

/-- FREE VALUE (log entry 6): the byte drawn at the k-th read of a cell nothing has written
(42_frame_store.md R106, 93_implementation_defined.md U1). -/
opaque Config.freeByte : Nat → Byte

/-- FREE VALUE (log entry 3): the level of `rst` in cycle c, where the run lists no input for it. -/
opaque Config.freeRst : Nat → Bool

/-- FREE VALUE (log entry 3): the sampled level of `sync_in` in cycle c, where the run lists no input for it
(93_implementation_defined.md U5: the sample is an input). -/
opaque Config.freeSync : Nat → Bool

/-- FREE VALUE (log entry 3): the transaction word of cycle c, where the run lists no input for it. -/
opaque Config.freeWord : Nat → TxWord

/-- OPEN parameter HOST_BASE (20_memory.md R52, 92_eei_decisions.md D43; log entry 14): the host address of word 0.
It is invisible to the block, and no step reads it. -/
opaque Config.hostBase : Nat

/-- Where a byte-addressed host sees register word `a`: HOST_BASE + 4·ADDR (92_eei_decisions.md D43). -/
def Config.hostAddress (a : BitVec 4) : Nat := Config.hostBase + 4 * a.toNat

end Sys2Proof
end

