-- ==== Sys2Proof/Syntax.lean ====
section
/-! DEFINITION. The operations of the block: one constructor per row of spec/opcode_table.json. -/

namespace Sys2Proof

/-- The 33 host transactions of 30_encoding.md R68 and the 9 internal events of R70. A write carries the 32 bits
of WDATA as they stand in its word (R67); its meaning takes the fields it uses (R69). The ignored bits of a read
and of a NOP are dropped (R65, R66, R71; log entry 13). -/
inductive Instr where
  /-- NOP, no transaction: SEL = 0, the other bits ignored (44_host_bus.md R127). -/
  | nop
  /-- RD.CTRL, word 0x2000000000 with WDATA ignored (44_host_bus.md R128). -/
  | rdCtrl
  /-- RD.STATUS, word 0x2100000000 with WDATA ignored (44_host_bus.md R130). -/
  | rdStatus
  /-- RD.LOADPTR, word 0x2200000000 with WDATA ignored (44_host_bus.md R132). -/
  | rdLoadptr
  /-- RD.WO.LOADDATA, word 0x2300000000 with WDATA ignored (44_host_bus.md R133). -/
  | rdWoLoaddata
  /-- RD.WO.CMD, word 0x2400000000 with WDATA ignored (44_host_bus.md R133). -/
  | rdWoCmd
  /-- RD.PERIOD, word 0x2500000000 with WDATA ignored (44_host_bus.md R134). -/
  | rdPeriod
  /-- RD.PIXQ, word 0x2600000000 with WDATA ignored (44_host_bus.md R135). -/
  | rdPixq
  /-- RD.PIXR, word 0x2700000000 with WDATA ignored (44_host_bus.md R136). -/
  | rdPixr
  /-- RD.TARGET, word 0x2800000000 with WDATA ignored (44_host_bus.md R137). -/
  | rdTarget
  /-- RD.PIXERR, word 0x2900000000 with WDATA ignored (44_host_bus.md R138). -/
  | rdPixerr
  /-- RD.FPS, word 0x2A00000000 with WDATA ignored (44_host_bus.md R139). -/
  | rdFps
  /-- RD.POS, word 0x2B00000000 with WDATA ignored (44_host_bus.md R140). -/
  | rdPos
  /-- RD.SWAPCNT, word 0x2C00000000 with WDATA ignored (44_host_bus.md R141). -/
  | rdSwapcnt
  /-- RD.REVTICKS, word 0x2D00000000 with WDATA ignored (44_host_bus.md R142). -/
  | rdRevticks
  /-- RD.RSV.RSV14, word 0x2E00000000 with WDATA ignored (44_host_bus.md R144). -/
  | rdRsv14
  /-- RD.RSV.RSV15, word 0x2F00000000 with WDATA ignored (44_host_bus.md R144). -/
  | rdRsv15
  /-- WR.CTRL, word 0x3000000000 with the operand WDATA (44_host_bus.md R129). -/
  | wrCtrl (wdata : Word)
  /-- WR.STATUS, word 0x3100000000 with the operand WDATA (44_host_bus.md R131). -/
  | wrStatus (wdata : Word)
  /-- WR.LOADPTR, word 0x3200000000 with the operand WDATA (42_frame_store.md R110). -/
  | wrLoadptr (wdata : Word)
  /-- WR.LOADDATA, word 0x3300000000 with the operand WDATA (42_frame_store.md R111). -/
  | wrLoaddata (wdata : Word)
  /-- WR.CMD, word 0x3400000000 with the operand WDATA (42_frame_store.md R112). -/
  | wrCmd (wdata : Word)
  /-- WR.RO.PERIOD, word 0x3500000000 with the operand WDATA (44_host_bus.md R143). -/
  | wrRoPeriod (wdata : Word)
  /-- WR.RO.PIXQ, word 0x3600000000 with the operand WDATA (44_host_bus.md R143). -/
  | wrRoPixq (wdata : Word)
  /-- WR.RO.PIXR, word 0x3700000000 with the operand WDATA (44_host_bus.md R143). -/
  | wrRoPixr (wdata : Word)
  /-- WR.RO.TARGET, word 0x3800000000 with the operand WDATA (44_host_bus.md R143). -/
  | wrRoTarget (wdata : Word)
  /-- WR.RO.PIXERR, word 0x3900000000 with the operand WDATA (44_host_bus.md R143). -/
  | wrRoPixerr (wdata : Word)
  /-- WR.RO.FPS, word 0x3A00000000 with the operand WDATA (44_host_bus.md R143). -/
  | wrRoFps (wdata : Word)
  /-- WR.RO.POS, word 0x3B00000000 with the operand WDATA (44_host_bus.md R143). -/
  | wrRoPos (wdata : Word)
  /-- WR.RO.SWAPCNT, word 0x3C00000000 with the operand WDATA (44_host_bus.md R143). -/
  | wrRoSwapcnt (wdata : Word)
  /-- WR.RO.REVTICKS, word 0x3D00000000 with the operand WDATA (44_host_bus.md R143). -/
  | wrRoRevticks (wdata : Word)
  /-- WR.RSV.RSV14, word 0x3E00000000 with the operand WDATA (44_host_bus.md R145). -/
  | wrRsv14 (wdata : Word)
  /-- WR.RSV.RSV15, word 0x3F00000000 with the operand WDATA (44_host_bus.md R145). -/
  | wrRsv15 (wdata : Word)
  /-- EV.RESET, selected by: rst = 1 (70_reset_and_hazards.md R166). -/
  | evReset
  /-- EV.PULSE.FIRST, selected by: pulse = 1 and HAVE_LAST = 0 (40_pulse_timer.md R83). -/
  | evPulseFirst
  /-- EV.PULSE.SHORT, selected by: pulse = 1, HAVE_LAST = 1, P_meas < P_MIN (40_pulse_timer.md R84). -/
  | evPulseShort
  /-- EV.PULSE.LONG, selected by: pulse = 1, HAVE_LAST = 1, P_meas > P_MAX (40_pulse_timer.md R85). -/
  | evPulseLong
  /-- EV.PULSE.ACCEPT, selected by: pulse = 1, HAVE_LAST = 1, P_MIN <= P_meas <= P_MAX (40_pulse_timer.md R86). -/
  | evPulseAccept
  /-- EV.ELAPSE, selected by: rst = 0 and pulse = 0 (40_pulse_timer.md R80). -/
  | evElapse
  /-- EV.TIMEOUT, selected by: rst = 0, pulse = 0, SYNC_VALID = 1 and E > P_MAX after the increment (40_pulse_timer.md R81). -/
  | evTimeout
  /-- EV.TIMER, selected by: rst = 0, SYNC_VALID = 1 after step 2, accepted = 0 and CTR > 1 (41_pixel_clock.md R93). -/
  | evTimer
  /-- EV.TICK, selected by: rst = 0 and (accepted = 1 or (SYNC_VALID = 1 and CTR <= 1)) (41_pixel_clock.md R99). -/
  | evTick
deriving DecidableEq, Repr

/-- The row's mnemonic in spec/opcode_table.json. -/
def Instr.mnemonic : Instr → String
  | .nop => "NOP"
  | .rdCtrl => "RD.CTRL"
  | .rdStatus => "RD.STATUS"
  | .rdLoadptr => "RD.LOADPTR"
  | .rdWoLoaddata => "RD.WO.LOADDATA"
  | .rdWoCmd => "RD.WO.CMD"
  | .rdPeriod => "RD.PERIOD"
  | .rdPixq => "RD.PIXQ"
  | .rdPixr => "RD.PIXR"
  | .rdTarget => "RD.TARGET"
  | .rdPixerr => "RD.PIXERR"
  | .rdFps => "RD.FPS"
  | .rdPos => "RD.POS"
  | .rdSwapcnt => "RD.SWAPCNT"
  | .rdRevticks => "RD.REVTICKS"
  | .rdRsv14 => "RD.RSV.RSV14"
  | .rdRsv15 => "RD.RSV.RSV15"
  | .wrCtrl _ => "WR.CTRL"
  | .wrStatus _ => "WR.STATUS"
  | .wrLoadptr _ => "WR.LOADPTR"
  | .wrLoaddata _ => "WR.LOADDATA"
  | .wrCmd _ => "WR.CMD"
  | .wrRoPeriod _ => "WR.RO.PERIOD"
  | .wrRoPixq _ => "WR.RO.PIXQ"
  | .wrRoPixr _ => "WR.RO.PIXR"
  | .wrRoTarget _ => "WR.RO.TARGET"
  | .wrRoPixerr _ => "WR.RO.PIXERR"
  | .wrRoFps _ => "WR.RO.FPS"
  | .wrRoPos _ => "WR.RO.POS"
  | .wrRoSwapcnt _ => "WR.RO.SWAPCNT"
  | .wrRoRevticks _ => "WR.RO.REVTICKS"
  | .wrRsv14 _ => "WR.RSV.RSV14"
  | .wrRsv15 _ => "WR.RSV.RSV15"
  | .evReset => "EV.RESET"
  | .evPulseFirst => "EV.PULSE.FIRST"
  | .evPulseShort => "EV.PULSE.SHORT"
  | .evPulseLong => "EV.PULSE.LONG"
  | .evPulseAccept => "EV.PULSE.ACCEPT"
  | .evElapse => "EV.ELAPSE"
  | .evTimeout => "EV.TIMEOUT"
  | .evTimer => "EV.TIMER"
  | .evTick => "EV.TICK"

/-- A host transaction (opcode table format `bus`), as against an internal event (format `event`). -/
def Instr.isTransaction : Instr → Bool
  | .nop => true
  | .rdCtrl => true
  | .rdStatus => true
  | .rdLoadptr => true
  | .rdWoLoaddata => true
  | .rdWoCmd => true
  | .rdPeriod => true
  | .rdPixq => true
  | .rdPixr => true
  | .rdTarget => true
  | .rdPixerr => true
  | .rdFps => true
  | .rdPos => true
  | .rdSwapcnt => true
  | .rdRevticks => true
  | .rdRsv14 => true
  | .rdRsv15 => true
  | .wrCtrl _ => true
  | .wrStatus _ => true
  | .wrLoadptr _ => true
  | .wrLoaddata _ => true
  | .wrCmd _ => true
  | .wrRoPeriod _ => true
  | .wrRoPixq _ => true
  | .wrRoPixr _ => true
  | .wrRoTarget _ => true
  | .wrRoPixerr _ => true
  | .wrRoFps _ => true
  | .wrRoPos _ => true
  | .wrRoSwapcnt _ => true
  | .wrRoRevticks _ => true
  | .wrRsv14 _ => true
  | .wrRsv15 _ => true
  | .evReset => false
  | .evPulseFirst => false
  | .evPulseShort => false
  | .evPulseLong => false
  | .evPulseAccept => false
  | .evElapse => false
  | .evTimeout => false
  | .evTimer => false
  | .evTick => false

end Sys2Proof
end

