-- ==== Sys2Proof/WellFormed.lean ====
section
/-! DEFINITION. What is well-formed: an instruction that a transaction word can carry, and a legal configuration. -/

namespace Sys2Proof

/-- An instruction the bus can carry: the 33 transactions (30_encoding.md R68). An event has no word; its
condition selects it (R70). Every operand of a transaction is admitted, as no word is illegal (R71). -/
def Instr.wellFormed (i : Instr) : Bool := i.isTransaction

/-- 00_scope.md R9: 2 ≤ N ≤ 65535. -/
abbrev Config.NLegal (c : Config) : Prop := 2 ≤ c.n ∧ c.n ≤ 65535

/-- 00_scope.md R9: 1 ≤ F_CLK ≤ 2^32 − 1. -/
abbrev Config.FClkLegal (c : Config) : Prop := 1 ≤ c.fClk ∧ c.fClk ≤ 2 ^ 32 - 1

/-- 00_scope.md R9: N + E_MAX ≤ P_MIN ≤ P_MAX. -/
abbrev Config.PMinLegal (c : Config) : Prop := c.n + c.eMax ≤ c.pMin ∧ c.pMin ≤ c.pMax

/-- 00_scope.md R9: P_MAX ≤ 2^32 − 2. -/
abbrev Config.PMaxLegal (c : Config) : Prop := c.pMax ≤ 2 ^ 32 - 2

/-- 00_scope.md R9: 0 ≤ E_MAX ≤ N − 1. -/
abbrev Config.EMaxLegal (c : Config) : Prop := c.eMax + 1 ≤ c.n

/-- 00_scope.md R9: 0 ≤ PHASE_OFFSET_RST ≤ 65535. -/
abbrev Config.PhaseLegal (c : Config) : Prop := c.phaseOffsetRst ≤ 65535

/-- 00_scope.md R9: 0 ≤ FPS_SHIFT ≤ 16. -/
abbrev Config.ShiftLegal (c : Config) : Prop := c.fpsShift ≤ 16

/-- A configuration of this block (00_scope.md R10): every range of R9 holds. -/
abbrev Config.Legal (c : Config) : Prop :=
  c.NLegal ∧ c.FClkLegal ∧ c.PMinLegal ∧ c.PMaxLegal ∧ c.EMaxLegal ∧ c.PhaseLegal ∧ c.ShiftLegal

end Sys2Proof
end

