-- ==== Sys2Proof/Decode.lean ====
section
/-! DEFINITION. The transaction word: its fields, the decoder, the encoder and the opcode table's rows. -/

namespace Sys2Proof

/-- SEL, bit 37: a transaction is present (30_encoding.md R64). -/
def TxWord.sel (w : TxWord) : Bool := w.getLsbD 37

/-- WE, bit 36: write, as against read (30_encoding.md R64). -/
def TxWord.we (w : TxWord) : Bool := w.getLsbD 36

/-- ADDR, bits 35:32: the register word address (30_encoding.md R64). -/
def TxWord.addr (w : TxWord) : BitVec 4 := w.extractLsb' 32 4

/-- WDATA, bits 31:0: the write data (30_encoding.md R64). -/
def TxWord.wdata (w : TxWord) : Word := w.extractLsb' 0 32

/-- The read of the register at an address (30_encoding.md R68). The last arm is address 0xF. -/
def decodeRead (addr : BitVec 4) : Instr :=
  match addr.toNat with
  | 0 => .rdCtrl
  | 1 => .rdStatus
  | 2 => .rdLoadptr
  | 3 => .rdWoLoaddata
  | 4 => .rdWoCmd
  | 5 => .rdPeriod
  | 6 => .rdPixq
  | 7 => .rdPixr
  | 8 => .rdTarget
  | 9 => .rdPixerr
  | 10 => .rdFps
  | 11 => .rdPos
  | 12 => .rdSwapcnt
  | 13 => .rdRevticks
  | 14 => .rdRsv14
  | _ => .rdRsv15

/-- The write of WDATA to the register at an address (30_encoding.md R68). The last arm is address 0xF. -/
def decodeWrite (addr : BitVec 4) (wdata : Word) : Instr :=
  match addr.toNat with
  | 0 => .wrCtrl wdata
  | 1 => .wrStatus wdata
  | 2 => .wrLoadptr wdata
  | 3 => .wrLoaddata wdata
  | 4 => .wrCmd wdata
  | 5 => .wrRoPeriod wdata
  | 6 => .wrRoPixq wdata
  | 7 => .wrRoPixr wdata
  | 8 => .wrRoTarget wdata
  | 9 => .wrRoPixerr wdata
  | 10 => .wrRoFps wdata
  | 11 => .wrRoPos wdata
  | 12 => .wrRoSwapcnt wdata
  | 13 => .wrRoRevticks wdata
  | 14 => .wrRsv14 wdata
  | _ => .wrRsv15 wdata

/-- The operation a transaction word selects; total (30_encoding.md R65 to R68, R71). -/
def decode (w : TxWord) : Instr :=
  if w.sel then
    if w.we then decodeWrite w.addr w.wdata else decodeRead w.addr
  else .nop

/-- Why a number is no transaction word. -/
inductive DecodeError where
  /-- A bit above bit 37 is set: the one format has 38 bits (30_encoding.md R64, R72). Safe: nothing is decoded. -/
  | widerThanWord
deriving DecidableEq, Repr

/-- The operation a number selects, read as a transaction word; a number wider than 38 bits is rejected by name
(log entry 13). -/
def decodeNat (w : Nat) : Except DecodeError Instr :=
  if w < 2 ^ 38 then .ok (decode (BitVec.ofNat 38 w)) else .error .widerThanWord

/-- The decoder on `nbits` bits numbered as spec/opcode_table.json numbers them. The transaction is one word,
presented whole on the bus pins, so its layout is the number itself. -/
def decodeTableWord (nbits w : Nat) : Option Instr :=
  match decodeNat (w % 2 ^ nbits) with
  | .ok i => some i
  | .error _ => none

/-- The transaction word with the given fields (30_encoding.md R64). -/
def busWord (sel we : Bool) (addr : BitVec 4) (wdata : Word) : TxWord :=
  BitVec.ofBool sel ++ BitVec.ofBool we ++ addr ++ wdata

/-- The canonical word of a transaction (30_encoding.md R65 to R68); an event has none (R70). -/
def encode : Instr → Option TxWord
  | .nop => some (busWord false false 0 0)
  | .rdCtrl => some (busWord true false 0x0 0)
  | .rdStatus => some (busWord true false 0x1 0)
  | .rdLoadptr => some (busWord true false 0x2 0)
  | .rdWoLoaddata => some (busWord true false 0x3 0)
  | .rdWoCmd => some (busWord true false 0x4 0)
  | .rdPeriod => some (busWord true false 0x5 0)
  | .rdPixq => some (busWord true false 0x6 0)
  | .rdPixr => some (busWord true false 0x7 0)
  | .rdTarget => some (busWord true false 0x8 0)
  | .rdPixerr => some (busWord true false 0x9 0)
  | .rdFps => some (busWord true false 0xA 0)
  | .rdPos => some (busWord true false 0xB 0)
  | .rdSwapcnt => some (busWord true false 0xC 0)
  | .rdRevticks => some (busWord true false 0xD 0)
  | .rdRsv14 => some (busWord true false 0xE 0)
  | .rdRsv15 => some (busWord true false 0xF 0)
  | .wrCtrl wdata => some (busWord true true 0x0 wdata)
  | .wrStatus wdata => some (busWord true true 0x1 wdata)
  | .wrLoadptr wdata => some (busWord true true 0x2 wdata)
  | .wrLoaddata wdata => some (busWord true true 0x3 wdata)
  | .wrCmd wdata => some (busWord true true 0x4 wdata)
  | .wrRoPeriod wdata => some (busWord true true 0x5 wdata)
  | .wrRoPixq wdata => some (busWord true true 0x6 wdata)
  | .wrRoPixr wdata => some (busWord true true 0x7 wdata)
  | .wrRoTarget wdata => some (busWord true true 0x8 wdata)
  | .wrRoPixerr wdata => some (busWord true true 0x9 wdata)
  | .wrRoFps wdata => some (busWord true true 0xA wdata)
  | .wrRoPos wdata => some (busWord true true 0xB wdata)
  | .wrRoSwapcnt wdata => some (busWord true true 0xC wdata)
  | .wrRoRevticks wdata => some (busWord true true 0xD wdata)
  | .wrRsv14 wdata => some (busWord true true 0xE wdata)
  | .wrRsv15 wdata => some (busWord true true 0xF wdata)
  | .evReset => none
  | .evPulseFirst => none
  | .evPulseShort => none
  | .evPulseLong => none
  | .evPulseAccept => none
  | .evElapse => none
  | .evTimeout => none
  | .evTimer => none
  | .evTick => none

/-- One row of format `bus` of spec/opcode_table.json. -/
structure OpcodeRow where
  /-- The row's mnemonic. -/
  mnemonic : String
  /-- The bits that the row fixes. -/
  fixed : TxWord
  /-- Which bits the row fixes. -/
  mask : TxWord
deriving DecidableEq, Repr

/-- A word selects a row when it agrees with it on the bits the row fixes. -/
def OpcodeRow.selects (r : OpcodeRow) (w : TxWord) : Bool := w &&& r.mask == r.fixed

/-- The 33 rows of format `bus` of spec/opcode_table.json, in the table's order. -/
def opcodeRows : List OpcodeRow := [
  ⟨"NOP", 0x0000000000#38, 0x2000000000#38⟩,
  ⟨"RD.CTRL", 0x2000000000#38, 0x3F00000000#38⟩,
  ⟨"RD.STATUS", 0x2100000000#38, 0x3F00000000#38⟩,
  ⟨"RD.LOADPTR", 0x2200000000#38, 0x3F00000000#38⟩,
  ⟨"RD.WO.LOADDATA", 0x2300000000#38, 0x3F00000000#38⟩,
  ⟨"RD.WO.CMD", 0x2400000000#38, 0x3F00000000#38⟩,
  ⟨"RD.PERIOD", 0x2500000000#38, 0x3F00000000#38⟩,
  ⟨"RD.PIXQ", 0x2600000000#38, 0x3F00000000#38⟩,
  ⟨"RD.PIXR", 0x2700000000#38, 0x3F00000000#38⟩,
  ⟨"RD.TARGET", 0x2800000000#38, 0x3F00000000#38⟩,
  ⟨"RD.PIXERR", 0x2900000000#38, 0x3F00000000#38⟩,
  ⟨"RD.FPS", 0x2A00000000#38, 0x3F00000000#38⟩,
  ⟨"RD.POS", 0x2B00000000#38, 0x3F00000000#38⟩,
  ⟨"RD.SWAPCNT", 0x2C00000000#38, 0x3F00000000#38⟩,
  ⟨"RD.REVTICKS", 0x2D00000000#38, 0x3F00000000#38⟩,
  ⟨"RD.RSV.RSV14", 0x2E00000000#38, 0x3F00000000#38⟩,
  ⟨"RD.RSV.RSV15", 0x2F00000000#38, 0x3F00000000#38⟩,
  ⟨"WR.CTRL", 0x3000000000#38, 0x3F00000000#38⟩,
  ⟨"WR.STATUS", 0x3100000000#38, 0x3F00000000#38⟩,
  ⟨"WR.LOADPTR", 0x3200000000#38, 0x3F00000000#38⟩,
  ⟨"WR.LOADDATA", 0x3300000000#38, 0x3F00000000#38⟩,
  ⟨"WR.CMD", 0x3400000000#38, 0x3F00000000#38⟩,
  ⟨"WR.RO.PERIOD", 0x3500000000#38, 0x3F00000000#38⟩,
  ⟨"WR.RO.PIXQ", 0x3600000000#38, 0x3F00000000#38⟩,
  ⟨"WR.RO.PIXR", 0x3700000000#38, 0x3F00000000#38⟩,
  ⟨"WR.RO.TARGET", 0x3800000000#38, 0x3F00000000#38⟩,
  ⟨"WR.RO.PIXERR", 0x3900000000#38, 0x3F00000000#38⟩,
  ⟨"WR.RO.FPS", 0x3A00000000#38, 0x3F00000000#38⟩,
  ⟨"WR.RO.POS", 0x3B00000000#38, 0x3F00000000#38⟩,
  ⟨"WR.RO.SWAPCNT", 0x3C00000000#38, 0x3F00000000#38⟩,
  ⟨"WR.RO.REVTICKS", 0x3D00000000#38, 0x3F00000000#38⟩,
  ⟨"WR.RSV.RSV14", 0x3E00000000#38, 0x3F00000000#38⟩,
  ⟨"WR.RSV.RSV15", 0x3F00000000#38, 0x3F00000000#38⟩]

end Sys2Proof
end

