-- ==== Sys2Proof/Machine/State.lean ====
section
/-! DEFINITION. The state of the block as plain data, the reasons a step can stop, and the reset state. -/

namespace Sys2Proof.Machine

/-- One of the two physical frame regions (00_scope.md R11, 10_state.md R24). -/
inductive Slot where
  /-- Slot 0. -/
  | slot0
  /-- Slot 1. -/
  | slot1
deriving DecidableEq, Repr

/-- The frame store's contents: the cells that hold a byte, as (address, byte) pairs with strictly rising addresses.
A cell that is not listed is ⊥, nothing has written it (10_state.md R25, 20_memory.md R48). -/
abbrev Memory := List Host.Cell

/-- The inputs sampled in one cycle (10_state.md R18, 40_pulse_timer.md R75). -/
structure CycleInput where
  /-- Port `rst`. -/
  rst : Bool
  /-- Port `sync_in`, as sampled. -/
  syncIn : Bool
  /-- Ports `bus_sel`, `bus_we`, `bus_addr`, `bus_wdata` as one transaction word. -/
  word : TxWord
deriving DecidableEq, Repr

/-- The synchroniser and edge detector (10_state.md R21). -/
structure SyncRegs where
  /-- SYNC_META. -/
  syncMeta : Bool
  /-- SYNC_Q. -/
  syncQ : Bool
  /-- SYNC_PREV. -/
  syncPrev : Bool
deriving DecidableEq, Repr

/-- Pulse-timer state (10_state.md R22). -/
structure PulseTimer where
  /-- E: cycles since the last pulse event, saturating. -/
  e : Word
  /-- HAVE_LAST: a pulse event has happened since reset. -/
  haveLast : Bool
  /-- SYNC_VALID: 1 = live, 0 = idle. -/
  syncValid : Bool
  /-- PERIOD: the last accepted revolution period in cycles. -/
  period : Word
  /-- ERR: the pixel error accumulator, two's complement. -/
  err : Word
  /-- FPS: the frames-per-second estimate, UQ16.16. -/
  fps : Word
  /-- REV_TICKS: pixel ticks between the last two pulse events. -/
  revTicks : Word
deriving DecidableEq, Repr

/-- Pixel-clock state (10_state.md R23). -/
structure PixelClock where
  /-- T: target tick count of the current revolution. -/
  t : BitVec 17
  /-- Q: base per-pixel interval in cycles. -/
  q : Word
  /-- R: remainder of PERIOD by T. -/
  r : BitVec 17
  /-- ACC: the interval-distribution accumulator. -/
  acc : BitVec 17
  /-- CTR: cycles left until the next tick. -/
  ctr : Word
  /-- TC: ticks fired since the last pulse event, saturating. -/
  tc : Word
  /-- P_IDX: index of the next pixel to emit. -/
  pIdx : BitVec 16
  /-- ALIGNED: an alignment has happened since the block last went idle. -/
  aligned : Bool
  /-- PHASE_OFFSET: pixel ticks after each pulse before the index resets; host-written. -/
  phaseOffset : BitVec 16
deriving DecidableEq, Repr

/-- Frame-store arbiter state (10_state.md R24). -/
structure FrameArbiter where
  /-- ACTIVE: the slot that is the active region. -/
  active : Slot
  /-- READY: standby is committed and not written since. -/
  ready : Bool
  /-- ACTIVE_VALID: at least one swap since reset. -/
  activeValid : Bool
  /-- SWAP_COUNT: swaps since reset, mod 2^32. -/
  swapCount : Word
  /-- LOAD_PTR: offset in standby that the next LOADDATA write fills. -/
  loadPtr : BitVec 18
deriving DecidableEq, Repr

/-- DAC output registers (10_state.md R26). -/
structure DacRegs where
  /-- DAC_R. -/
  dacR : Code
  /-- DAC_G. -/
  dacG : Code
  /-- DAC_B. -/
  dacB : Code
deriving DecidableEq, Repr

/-- Host-interface state (10_state.md R27). -/
structure HostRegs where
  /-- SWAP_IE. -/
  swapIe : Bool
  /-- FAULT_IE. -/
  faultIe : Bool
  /-- SWAPPED, sticky. -/
  swapped : Bool
  /-- F_SHORT, sticky. -/
  fShort : Bool
  /-- F_LONG, sticky. -/
  fLong : Bool
  /-- F_TIMEOUT, sticky. -/
  fTimeout : Bool
  /-- F_LOADOVF, sticky. -/
  fLoadOvf : Bool
deriving DecidableEq, Repr

/-- The signals that live inside one cycle (00_scope.md R8, 40_pulse_timer.md R75). Every cycle starts with all of
them 0; after a step they show the cycle just done (log entry 7). -/
structure CycleWires where
  /-- `pulse`: the synchroniser reports a rising edge. -/
  pulse : Bool
  /-- `accepted`: this cycle's pulse was accepted. -/
  accepted : Bool
  /-- `enter_idle`: an idle entry happened. -/
  enterIdle : Bool
  /-- `tick`: the pixel timer fired. -/
  tick : Bool
  /-- `frame_start`: the tick is a frame start. -/
  frameStart : Bool
  /-- `setmask`: the sticky STATUS bits set in this cycle (60_exceptions.md R153). -/
  setmask : Word
deriving DecidableEq, Repr

/-- The output ports during one cycle (10_state.md R18). -/
structure Outputs where
  /-- Port `dac_r`. -/
  dacR : Code
  /-- Port `dac_g`. -/
  dacG : Code
  /-- Port `dac_b`. -/
  dacB : Code
  /-- Port `irq`. -/
  irq : Bool
  /-- Port `bus_rdata`. -/
  busRdata : Word
deriving DecidableEq, Repr

/-- The whole machine. -/
structure State where
  /-- The build parameters (00_scope.md R9; log entry 1). -/
  cfg : Config
  /-- A reset cycle has happened since power-up (70_reset_and_hazards.md R167; log entry 5). -/
  launched : Bool
  /-- The synchroniser. -/
  sync : SyncRegs
  /-- The pulse timer. -/
  pt : PulseTimer
  /-- The pixel clock. -/
  pc : PixelClock
  /-- The frame-store arbiter. -/
  fs : FrameArbiter
  /-- STORE, the two slots' cells (10_state.md R25). -/
  store : Memory
  /-- The DAC output registers. -/
  dm : DacRegs
  /-- The host-interface registers. -/
  hb : HostRegs
  /-- The internal signals of the cycle (log entry 7). -/
  wires : CycleWires
  /-- The output ports in the cycle just done (log entry 8). -/
  out : Outputs
  /-- The inputs of the coming cycles, next one first (log entry 3). -/
  inputs : List CycleInput
  /-- The number of the next cycle (00_scope.md R16; log entry 9). -/
  cycle : Nat
  /-- How many values of ⊥ bytes have been drawn (42_frame_store.md R106; log entry 6). -/
  draws : Nat
deriving DecidableEq, Repr

/-- Why the machine stops with a fault. -/
inductive Fault where
  /-- An emission addressed a pixel offset outside its slot, an address that 20_memory.md R48 does not have. Raised
  by the store access of EV.TICK. Safe: R30 and R54 say no run of the hardware gets there (log entry 10). -/
  | storeOffset
deriving DecidableEq, Repr

/-- Why a step is refused. -/
inductive Refusal where
  /-- The instruction has no meaning in this model. Raised by a rejected arm of `exec` only; safe. -/
  | notModelled (mnemonic : String)
  /-- The configuration breaks a range of 00_scope.md R9, so it is no configuration of this block (R10). Raised by
  `step`; safe (log entry 2). -/
  | illegalConfiguration
  /-- The first cycle after power-up has `rst` = 0 (70_reset_and_hazards.md R167). Raised by `step`; safe
  (log entry 5). -/
  | runNotStartedByReset
deriving DecidableEq, Repr

/-- Nothing has happened in a cycle yet (40_pulse_timer.md R75: `setmask <- 0`, `accepted <- 0`). -/
def CycleWires.clear : CycleWires :=
  { pulse := false, accepted := false, enterIdle := false, tick := false, frameStart := false, setmask := 0 }

/-- The reset state of a configuration (10_state.md R31) reached from power-up by one reset cycle: every cell ⊥,
no inputs listed, cycle 1 next. The model's own fields hold the values of log entries 3, 5 and 7 to 9. -/
def State.resetOf (c : Config) : State :=
  { cfg := c
    launched := true
    sync := { syncMeta := true, syncQ := true, syncPrev := true }
    pt := { e := 0, haveLast := false, syncValid := false, period := 0, err := 0, fps := 0, revTicks := 0 }
    pc :=
      { t := BitVec.ofNat 17 c.n, q := 0, r := 0, acc := 0, ctr := 0, tc := 0, pIdx := 0, aligned := false
        phaseOffset := BitVec.ofNat 16 c.phaseOffsetRst }
    fs := { active := .slot0, ready := false, activeValid := false, swapCount := 0, loadPtr := 0 }
    store := []
    dm := { dacR := 0, dacG := 0, dacB := 0 }
    hb :=
      { swapIe := false, faultIe := false, swapped := false, fShort := false, fLong := false, fTimeout := false
        fLoadOvf := false }
    wires := CycleWires.clear
    out := { dacR := 0, dacG := 0, dacB := 0, irq := false, busRdata := 0 }
    inputs := []
    cycle := 1
    draws := 0 }

/-- The machine right after reset, in the default configuration of 00_scope.md R9 (log entry 1). -/
def State.reset : State := State.resetOf Config.defaults

/-- The machine at power-up, before its first reset (70_reset_and_hazards.md R167): every element but STORE is
whatever `junk` holds, and every cell is ⊥. -/
def State.powerUp (junk : State) : State := { junk with launched := false, store := [] }

end Sys2Proof.Machine
end

