-- ==== Sys2Proof/Machine/Flags.lean ====
section
/-! DEFINITION. The status flags: causes, sticky flags, the STATUS word, write-1-to-clear and the interrupt level. -/

namespace Sys2Proof.Machine

/-- What sets a sticky flag (60_exceptions.md R147). -/
inductive Cause where
  /-- A swap; an event, not a fault. -/
  | swapped
  /-- A too-short period; sensor fault. -/
  | short
  /-- A too-long period; sensor fault. -/
  | long
  /-- No pulse within the window; sensor fault. -/
  | timeout
  /-- A load past the end of standby; load fault. -/
  | loadOvf
deriving DecidableEq, Repr

/-- The cause code is the STATUS bit position (60_exceptions.md R147). -/
def causeBit : Cause → Nat
  | .swapped => 8
  | .short => 9
  | .long => 10
  | .timeout => 11
  | .loadOvf => 12

/-- The cause's bit as a mask of STATUS. -/
def causeMask (c : Cause) : Word := 1#32 <<< causeBit c

/-- The sticky flag of a cause (10_state.md R27). -/
def stickyFlag (c : Cause) (h : HostRegs) : Bool :=
  match c with
  | .swapped => h.swapped
  | .short => h.fShort
  | .long => h.fLong
  | .timeout => h.fTimeout
  | .loadOvf => h.fLoadOvf

/-- Setting the sticky flag of a cause; a flag already 1 stays 1 (60_exceptions.md R153). -/
def setSticky (c : Cause) (h : HostRegs) : HostRegs :=
  match c with
  | .swapped => { h with swapped := true }
  | .short => { h with fShort := true }
  | .long => { h with fLong := true }
  | .timeout => { h with fTimeout := true }
  | .loadOvf => { h with fLoadOvf := true }

/-- The write-1-to-clear mask of a WR.STATUS: the written bits 12:8 that the block did not set in this cycle
(44_host_bus.md R131, 60_exceptions.md R153 "set wins"). -/
def clearMask (wdata setmask : Word) : Word := wdata &&& 0x1F00#32 &&& ~~~setmask

/-- Clearing the sticky flags that a mask selects (44_host_bus.md R131). -/
def clearSticky (clr : Word) (h : HostRegs) : HostRegs :=
  { h with
    swapped := h.swapped && !clr.getLsbD 8
    fShort := h.fShort && !clr.getLsbD 9
    fLong := h.fLong && !clr.getLsbD 10
    fTimeout := h.fTimeout && !clr.getLsbD 11
    fLoadOvf := h.fLoadOvf && !clr.getLsbD 12 }

/-- The one bit ACTIVE (10_state.md R24). -/
def slotBit : Slot → Bool
  | .slot0 => false
  | .slot1 => true

/-- The STATUS word (10_state.md R34, 44_host_bus.md R125). -/
def statusWord (s : State) : Word :=
  (BitVec.ofBool s.hb.fLoadOvf ++ BitVec.ofBool s.hb.fTimeout ++ BitVec.ofBool s.hb.fLong ++
    BitVec.ofBool s.hb.fShort ++ BitVec.ofBool s.hb.swapped ++ 0#2 ++ BitVec.ofBool s.pt.haveLast ++
    BitVec.ofBool s.pc.aligned ++ BitVec.ofBool s.fs.activeValid ++ BitVec.ofBool (slotBit s.fs.active) ++
    BitVec.ofBool s.fs.ready ++ BitVec.ofBool s.pt.syncValid).setWidth 32

/-- The level of `irq` (60_exceptions.md R154). -/
def irqLevel (s : State) : Bool :=
  (s.hb.swapped && s.hb.swapIe) ||
    ((s.hb.fShort || s.hb.fLong || s.hb.fTimeout || s.hb.fLoadOvf) && s.hb.faultIe)

end Sys2Proof.Machine
end

