-- ==== Sys2Proof/Machine/Operands.lean ====
section
/-! DEFINITION. Operands: the fields a write takes from WDATA, and the word each register reads as. -/

namespace Sys2Proof.Machine

/-- PHASE_OFFSET of a WR.CTRL, WDATA[15:0] (30_encoding.md R69). -/
def phaseOffsetField (wdata : Word) : BitVec 16 := wdata.extractLsb' 0 16

/-- SWAP_IE of a WR.CTRL, WDATA[16] (30_encoding.md R69). -/
def swapIeField (wdata : Word) : Bool := wdata.getLsbD 16

/-- FAULT_IE of a WR.CTRL, WDATA[17] (30_encoding.md R69). -/
def faultIeField (wdata : Word) : Bool := wdata.getLsbD 17

/-- LOAD_PTR of a WR.LOADPTR, WDATA[17:0] (30_encoding.md R69). -/
def loadPtrField (wdata : Word) : BitVec 18 := wdata.extractLsb' 0 18

/-- The byte of a WR.LOADDATA, WDATA[7:0] (30_encoding.md R69). -/
def byteField (wdata : Word) : Byte := wdata.extractLsb' 0 8

/-- COMMIT of a WR.CMD, WDATA[0] (30_encoding.md R69). -/
def commitField (wdata : Word) : Bool := wdata.getLsbD 0

/-- The CTRL word (10_state.md R33, 44_host_bus.md R128). -/
def ctrlWord (s : State) : Word :=
  (BitVec.ofBool s.hb.faultIe ++ BitVec.ofBool s.hb.swapIe ++ s.pc.phaseOffset).setWidth 32

/-- The POS word: TC saturated to 16 bits above P_IDX (10_state.md R44, 44_host_bus.md R140). -/
def posWord (s : State) : Word := BitVec.ofNat 16 (min s.pc.tc.toNat 65535) ++ s.pc.pIdx

/-- The read function of the bus (44_host_bus.md R125). The last arm is the reserved words 0xE and 0xF. -/
def readRegister (addr : BitVec 4) (s : State) : Word :=
  match addr.toNat with
  | 0x0 => ctrlWord s
  | 0x1 => statusWord s
  | 0x2 => s.fs.loadPtr.setWidth 32
  | 0x3 => 0
  | 0x4 => 0
  | 0x5 => s.pt.period
  | 0x6 => s.pc.q
  | 0x7 => s.pc.r.setWidth 32
  | 0x8 => s.pc.t.setWidth 32
  | 0x9 => s.pt.err
  | 0xA => s.pt.fps
  | 0xB => posWord s
  | 0xC => s.fs.swapCount
  | 0xD => s.pt.revTicks
  | _ => 0

end Sys2Proof.Machine
end

