-- ==== Sys2Proof/Machine/Ops.lean ====
section
/-! DEFINITION. The shared operations: arithmetic primitives, the frame store, taking a fault and acknowledging it,
and the bus outputs. -/

namespace Sys2Proof.Machine

/-- What `exec` and `step` answer. -/
abbrev Result := Host.Outcome State Fault Refusal

/-- Sequential composition inside a cycle (00_scope.md R15): go on from a next state, and stop at a stop. -/
def andThen (r : Result) (k : State → Result) : Result :=
  match r with
  | .next s => k s
  | .fault f => .fault f
  | .refused f => .refused f

/-- `sat32(x) = min(x, 2^32 − 1)` (00_scope.md R14). -/
def sat32 (x : Nat) : Word := BitVec.ofNat 32 (min x (2 ^ 32 - 1))

/-- `sat_s32(x)`, as a two's-complement word (00_scope.md R14). -/
def satS32 (x : Int) : Word := BitVec.ofInt 32 (max (-2 ^ 31) (min (2 ^ 31 - 1) x))

/-- `clamp(x, lo, hi)` (00_scope.md R14). -/
def clampInt (x lo hi : Int) : Int := max lo (min hi x)

/-- `clamp6(v) = min(v, 63)` (00_scope.md R14, 43_dac_mapper.md R119). -/
def clamp6 (v : Byte) : Code := BitVec.ofNat 6 (min v.toNat 63)

/-- `asr(x, k) = floor(x / 2^k)`; Lean's division by a positive integer rounds toward minus infinity
(00_scope.md R14). -/
def asr (x : Int) (k : Nat) : Int := x / 2 ^ k

/-- The other slot (42_frame_store.md R105). -/
def otherSlot : Slot → Slot
  | .slot0 => .slot1
  | .slot1 => .slot0

/-- The slot's number. -/
def slotNumber : Slot → Nat
  | .slot0 => 0
  | .slot1 => 1

/-- The standby region is slot 1 − ACTIVE (20_memory.md R49). -/
def standbySlot (s : State) : Slot := otherSlot s.fs.active

/-- The address of an offset of a slot, `a = s·3N + o`; an offset of 3N or more has none (20_memory.md R48). -/
def cellAddress (c : Config) (slot : Slot) (offset : Nat) : Option Nat :=
  if offset < c.slotBytes then some (slotNumber slot * c.slotBytes + offset) else none

/-- `MemRead(a, 1)`: the byte at an address, or none for ⊥ (20_memory.md R48). -/
def Memory.read : Memory → Nat → Option Byte
  | [], _ => none
  | (b, v) :: m, a => if a = b then some v else Memory.read m a

/-- `MemWrite(a, 1, v)`: the store with the byte at an address set, in canonical form (20_memory.md R48). -/
def Memory.write : Memory → Nat → Byte → Memory
  | [], a, v => [(a, v)]
  | (b, w) :: m, a, v =>
    if a < b then (a, v) :: (b, w) :: m
    else if a = b then (a, v) :: m
    else (b, w) :: Memory.write m a v

/-- The canonical form: strictly rising addresses. An unlisted cell is ⊥ and no listed entry can say ⊥, so equal
stores are equal lists. -/
def Memory.wf (m : Memory) : Bool := decide (m.Pairwise fun x y => x.1 < y.1)

/-- Every listed cell exists: its address is below 2·3N (20_memory.md R48). -/
def Memory.within (c : Config) (m : Memory) : Bool := m.all fun x => decide (x.1 < 2 * c.slotBytes)

/-- The byte a slot holds at an offset, none for ⊥ or for an offset the slot does not have. -/
def slotByte (s : State) (slot : Slot) (offset : Nat) : Option Byte :=
  match cellAddress s.cfg slot offset with
  | some a => Memory.read s.store a
  | none => none

/-- `Draw()`: a fresh free byte (42_frame_store.md R106; log entry 6). -/
def drawByte (s : State) : Byte × State := (Config.freeByte s.draws, { s with draws := s.draws + 1 })

/-- `raise Fault(cause)` (00_scope.md R15): set the cause's sticky bit and record it in `setmask`; nothing else.
A swap sets SWAPPED the same way (42_frame_store.md R107). -/
def raise (c : Cause) (s : State) : State :=
  { s with
    hb := setSticky c s.hb
    wires := { s.wires with setmask := s.wires.setmask ||| causeMask c } }

/-- ENTERIDLE (60_exceptions.md R149); `enter_idle` is the signal of 00_scope.md R8. -/
def enterIdle (s : State) : State :=
  { s with
    pt := { s.pt with syncValid := false }
    pc := { s.pc with aligned := false }
    dm := { dacR := 0, dacG := 0, dacB := 0 }
    wires := { s.wires with enterIdle := true } }

/-- Taking a sensor fault, the block's whole response (60_exceptions.md R146, R147, R149): the sticky flag, then the
idle entry. No state is saved and no control is transferred (R157). -/
def takeSensorFault (c : Cause) (s : State) : State := enterIdle (raise c s)

/-- The return from a fault, which is the host's acknowledgement (60_exceptions.md R158, 44_host_bus.md R131):
nothing is restored, the selected sticky flags are cleared. -/
def acknowledge (wdata : Word) (s : State) : State :=
  { s with hb := clearSticky (clearMask wdata s.wires.setmask) s.hb }

/-- `bus_rdata <- v` (44_host_bus.md R125). -/
def driveBus (v : Word) (s : State) : State := { s with out := { s.out with busRdata := v } }

end Sys2Proof.Machine
end

