-- ==== Sys2Proof/Machine/HostBus.lean ====
section
/-! DEFINITION. The host bus transactions of 44_host_bus.md: NOP, the reads, and the writes other than
WR.LOADPTR, WR.LOADDATA and WR.CMD. -/

namespace Sys2Proof.Machine

/-- NOP (44_host_bus.md R127): nothing; `bus_rdata` is 0. -/
def execNop (s : State) : Result := .next (driveBus 0 s)

/-- A read (44_host_bus.md R125): `bus_rdata` gets the register at the address; nothing else changes (20_memory.md
R56). -/
def busRead (addr : BitVec 4) (s : State) : Result := .next (driveBus (readRegister addr s) s)

/-- A write that the register ignores: read-only (44_host_bus.md R143) or reserved (R145). -/
def busIgnoredWrite (s : State) : Result := .next s

/-- RD.CTRL (44_host_bus.md R128). -/
def execRdCtrl (s : State) : Result := busRead 0x0 s

/-- RD.STATUS (44_host_bus.md R130). -/
def execRdStatus (s : State) : Result := busRead 0x1 s

/-- RD.LOADPTR (44_host_bus.md R132). -/
def execRdLoadptr (s : State) : Result := busRead 0x2 s

/-- RD.WO.LOADDATA (44_host_bus.md R133). -/
def execRdWoLoaddata (s : State) : Result := busRead 0x3 s

/-- RD.WO.CMD (44_host_bus.md R133). -/
def execRdWoCmd (s : State) : Result := busRead 0x4 s

/-- RD.PERIOD (44_host_bus.md R134). -/
def execRdPeriod (s : State) : Result := busRead 0x5 s

/-- RD.PIXQ (44_host_bus.md R135). -/
def execRdPixq (s : State) : Result := busRead 0x6 s

/-- RD.PIXR (44_host_bus.md R136). -/
def execRdPixr (s : State) : Result := busRead 0x7 s

/-- RD.TARGET (44_host_bus.md R137). -/
def execRdTarget (s : State) : Result := busRead 0x8 s

/-- RD.PIXERR (44_host_bus.md R138). -/
def execRdPixerr (s : State) : Result := busRead 0x9 s

/-- RD.FPS (44_host_bus.md R139). -/
def execRdFps (s : State) : Result := busRead 0xA s

/-- RD.POS (44_host_bus.md R140). -/
def execRdPos (s : State) : Result := busRead 0xB s

/-- RD.SWAPCNT (44_host_bus.md R141). -/
def execRdSwapcnt (s : State) : Result := busRead 0xC s

/-- RD.REVTICKS (44_host_bus.md R142). -/
def execRdRevticks (s : State) : Result := busRead 0xD s

/-- RD.RSV.RSV14 (44_host_bus.md R144). -/
def execRdRsv14 (s : State) : Result := busRead 0xE s

/-- RD.RSV.RSV15 (44_host_bus.md R144). -/
def execRdRsv15 (s : State) : Result := busRead 0xF s

/-- WR.CTRL (44_host_bus.md R129): all three fields are replaced together. -/
def execWrCtrl (wdata : Word) (s : State) : Result :=
  .next
    { s with
      pc := { s.pc with phaseOffset := phaseOffsetField wdata }
      hb := { s.hb with swapIe := swapIeField wdata, faultIe := faultIeField wdata } }

/-- WR.STATUS (44_host_bus.md R131): the acknowledgement of sticky flags. -/
def execWrStatus (wdata : Word) (s : State) : Result := .next (acknowledge wdata s)

/-- WR.RO.PERIOD (44_host_bus.md R143); WDATA is ignored. -/
def execWrRoPeriod (_wdata : Word) (s : State) : Result := busIgnoredWrite s

/-- WR.RO.PIXQ (44_host_bus.md R143); WDATA is ignored. -/
def execWrRoPixq (_wdata : Word) (s : State) : Result := busIgnoredWrite s

/-- WR.RO.PIXR (44_host_bus.md R143); WDATA is ignored. -/
def execWrRoPixr (_wdata : Word) (s : State) : Result := busIgnoredWrite s

/-- WR.RO.TARGET (44_host_bus.md R143); WDATA is ignored. -/
def execWrRoTarget (_wdata : Word) (s : State) : Result := busIgnoredWrite s

/-- WR.RO.PIXERR (44_host_bus.md R143); WDATA is ignored. -/
def execWrRoPixerr (_wdata : Word) (s : State) : Result := busIgnoredWrite s

/-- WR.RO.FPS (44_host_bus.md R143); WDATA is ignored. -/
def execWrRoFps (_wdata : Word) (s : State) : Result := busIgnoredWrite s

/-- WR.RO.POS (44_host_bus.md R143); WDATA is ignored. -/
def execWrRoPos (_wdata : Word) (s : State) : Result := busIgnoredWrite s

/-- WR.RO.SWAPCNT (44_host_bus.md R143); WDATA is ignored. -/
def execWrRoSwapcnt (_wdata : Word) (s : State) : Result := busIgnoredWrite s

/-- WR.RO.REVTICKS (44_host_bus.md R143); WDATA is ignored. -/
def execWrRoRevticks (_wdata : Word) (s : State) : Result := busIgnoredWrite s

/-- WR.RSV.RSV14 (44_host_bus.md R145); WDATA is ignored. -/
def execWrRsv14 (_wdata : Word) (s : State) : Result := busIgnoredWrite s

/-- WR.RSV.RSV15 (44_host_bus.md R145); WDATA is ignored. -/
def execWrRsv15 (_wdata : Word) (s : State) : Result := busIgnoredWrite s

end Sys2Proof.Machine
end

