-- ==== Sys2Proof/Machine/FrameStore.lean ====
section
/-! DEFINITION. The double-buffered frame store: the emission read, the swap, and the host's fill and commit. -/

namespace Sys2Proof.Machine

/-- One channel byte of EMITREAD (42_frame_store.md R106): the cell of the active slot, or a fresh draw for ⊥.
An offset the slot does not have is the model's fault (log entry 10). -/
def readChannel (offset : Nat) (s : State) : Except Fault (Byte × State) :=
  match cellAddress s.cfg s.fs.active offset with
  | none => .error .storeOffset
  | some a =>
    match Memory.read s.store a with
    | some v => .ok (v, s)
    | none => .ok (drawByte s)

/-- EMITREAD (42_frame_store.md R106): the red, green and blue bytes of pixel `p` of the active slot, at offsets
3p, 3p + 1 and 3p + 2 (20_memory.md R50). -/
def emitRead (p : Nat) (s : State) : Except Fault ((Byte × Byte × Byte) × State) :=
  match readChannel (3 * p) s with
  | .error f => .error f
  | .ok (r, s1) =>
    match readChannel (3 * p + 1) s1 with
    | .error f => .error f
    | .ok (g, s2) =>
      match readChannel (3 * p + 2) s2 with
      | .error f => .error f
      | .ok (b, s3) => .ok ((r, g, b), s3)

/-- SWAP (42_frame_store.md R107): the roles change, READY falls, ACTIVE_VALID and SWAPPED rise, SWAP_COUNT grows
mod 2^32. -/
def swapSlots (s : State) : State :=
  raise .swapped
    { s with
      fs :=
        { s.fs with
          active := otherSlot s.fs.active
          ready := false
          activeValid := true
          swapCount := s.fs.swapCount + 1 } }

/-- WR.LOADPTR (42_frame_store.md R110). -/
def execWrLoadptr (wdata : Word) (s : State) : Result :=
  .next { s with fs := { s.fs with loadPtr := loadPtrField wdata } }

/-- WR.LOADDATA (42_frame_store.md R111): one byte into standby, which cancels a commit and advances LOAD_PTR; or,
where LOAD_PTR is past the slot's end, the load fault LOADOVF and no write. -/
def execWrLoaddata (wdata : Word) (s : State) : Result :=
  match cellAddress s.cfg (standbySlot s) s.fs.loadPtr.toNat with
  | some a =>
    .next
      { s with
        store := Memory.write s.store a (byteField wdata)
        fs := { s.fs with ready := false, loadPtr := s.fs.loadPtr + 1 } }
  | none => .next (raise .loadOvf s)

/-- WR.CMD (42_frame_store.md R112): a COMMIT bit of 1 sets READY, a 0 does nothing. -/
def execWrCmd (wdata : Word) (s : State) : Result :=
  .next (if commitField wdata then { s with fs := { s.fs with ready := true } } else s)

end Sys2Proof.Machine
end

