-- ==== Sys2Proof/Machine/DacMapper.lean ====
section
/-! DEFINITION. The RGB to DAC code mapper: the emission of one pixel. -/

namespace Sys2Proof.Machine

/-- Writing the three DAC registers (43_dac_mapper.md R118). -/
def setDac (r g b : Code) (s : State) : State := { s with dm := { dacR := r, dacG := g, dacB := b } }

/-- EMIT (43_dac_mapper.md R118): the clamped bytes of pixel `p`, or blank (R120) while unaligned or before the
first swap. -/
def emitPixel (p : Nat) (s : State) : Result :=
  if s.pc.aligned && s.fs.activeValid then
    match emitRead p s with
    | .ok ((r, g, b), s') => .next (setDac (clamp6 r) (clamp6 g) (clamp6 b) s')
    | .error f => .fault f
  else .next (setDac 0 0 0 s)

end Sys2Proof.Machine
end

