-- ==== Sys2Proof/Machine/PixelClock.lean ====
section
/-! DEFINITION. The pixel clock: the countdown, and the pixel tick with alignment, swap, emission and advance. -/

namespace Sys2Proof.Machine

/-- NEXTINTERVAL (41_pixel_clock.md R94): the new ACC and the interval, Q or Q + 1 cycles. -/
def nextInterval (pc : PixelClock) : BitVec 17 × Word :=
  let sum := pc.acc.toNat + pc.r.toNat
  if pc.t.toNat ≤ sum then (BitVec.ofNat 17 (sum - pc.t.toNat), pc.q + 1) else (BitVec.ofNat 17 sum, pc.q)

/-- Re-arming the countdown and firing (41_pixel_clock.md R93: `CTR <- NextInterval(); return 1`). -/
def fireTick (s : State) : State :=
  { s with
    pc := { s.pc with acc := (nextInterval s.pc).1, ctr := (nextInterval s.pc).2 }
    wires := { s.wires with tick := true } }

/-- PIXELTIMER (41_pixel_clock.md R93); its returned value is the signal `tick`. -/
def pixelTimer (s : State) : State :=
  if s.wires.accepted then fireTick s
  else if s.pt.syncValid = false then { s with wires := { s.wires with tick := false } }
  else if s.pc.ctr.toNat ≤ 1 then fireTick s
  else { s with pc := { s.pc with ctr := s.pc.ctr - 1 }, wires := { s.wires with tick := false } }

/-- ALIGN (41_pixel_clock.md R100). -/
def alignIndex (s : State) : State :=
  if s.pc.phaseOffset.setWidth 32 = s.pc.tc then { s with pc := { s.pc with pIdx := 0, aligned := true } } else s

/-- The frame start of 41_pixel_clock.md R101, after the alignment check. -/
def isFrameStart (s : State) : Bool := s.pc.aligned && decide (s.pc.pIdx = 0)

/-- The arbiter's part of a tick (41_pixel_clock.md R99): note the frame start, and swap there if standby is
committed (42_frame_store.md R107, R108). -/
def arbitrate (s : State) : State :=
  let m := { s with wires := { s.wires with frameStart := isFrameStart s } }
  if isFrameStart s && s.fs.ready then swapSlots m else m

/-- ADVANCE (41_pixel_clock.md R102). -/
def advanceIndex (s : State) : State :=
  { s with
    pc :=
      { s.pc with
        pIdx := if s.pc.pIdx.toNat + 1 = s.cfg.n then 0 else s.pc.pIdx + 1
        tc := sat32 (s.pc.tc.toNat + 1) } }

/-- EV.TIMER (41_pixel_clock.md R93, R94): the pixel timer's work in a cycle. Live with no tick due it counts CTR
down; where a tick is due it re-arms CTR and raises `tick`, and EV.TICK follows (log entry 11). -/
def execEvTimer (s : State) : Result := .next (pixelTimer s)

/-- EV.TICK (41_pixel_clock.md R99): alignment, frame start and swap, emission, advance. -/
def execEvTick (s : State) : Result :=
  let a := arbitrate (alignIndex s)
  andThen (emitPixel a.pc.pIdx.toNat a) fun e => .next (advanceIndex e)

end Sys2Proof.Machine
end

