-- ==== Sys2Proof/Machine/PulseTimer.lean ====
section
/-! DEFINITION. The pulse timer: synchroniser, elapsed count, timeout, and the pulse events. -/

namespace Sys2Proof.Machine

/-- SYNCHRONISE (40_pulse_timer.md R78): the edge detector on the rotation-sync line. -/
def synchronise (syncIn : Bool) (s : State) : State :=
  { s with
    sync := { syncMeta := syncIn, syncQ := s.sync.syncMeta, syncPrev := s.sync.syncQ }
    wires := { s.wires with pulse := s.sync.syncQ && !s.sync.syncPrev } }

/-- `sat32(E + 1)`: the elapsed count one cycle on (40_pulse_timer.md R80), and the measured period `P_meas` in a
pulse cycle (R82). -/
def elapsedNext (s : State) : Word := sat32 (s.pt.e.toNat + 1)

/-- The part every pulse event shares (40_pulse_timer.md R82): E, TC and REV_TICKS. -/
def measure (s : State) : State :=
  { s with
    pt := { s.pt with e := 0, revTicks := s.pc.tc }
    pc := { s.pc with tc := 0 } }

/-- The class of a pulse event, in the written order of 40_pulse_timer.md R82. -/
def pulseClass (s : State) : Instr :=
  if s.pt.haveLast = false then .evPulseFirst
  else if (elapsedNext s).toNat < s.cfg.pMin then .evPulseShort
  else if s.cfg.pMax < (elapsedNext s).toNat then .evPulseLong
  else .evPulseAccept

/-- ERRUPDATE (40_pulse_timer.md R87): the new ERR from the ticks of the revolution just ended. -/
def errUpdate (live : Bool) (tcOld : Word) (s : State) : State :=
  { s with
    pt := { s.pt with err := if live then satS32 (s.pt.err.toInt + s.cfg.n - tcOld.toNat) else 0 } }

/-- The target tick count for a pixel error (40_pulse_timer.md R88). -/
def targetFor (c : Config) (err : Word) : BitVec 17 :=
  BitVec.ofInt 17 (c.n + clampInt err.toInt (-c.eMax) c.eMax)

/-- SETTARGET (40_pulse_timer.md R88). -/
def setTarget (s : State) : State := { s with pc := { s.pc with t := targetFor s.cfg s.pt.err } }

/-- DIVIDE (40_pulse_timer.md R89). -/
def divide (p : Word) (s : State) : State :=
  { s with
    pc :=
      { s.pc with
        q := BitVec.ofNat 32 (p.toNat / s.pc.t.toNat)
        r := BitVec.ofNat 17 (p.toNat % s.pc.t.toNat)
        acc := 0 } }

/-- The instantaneous rate `inst` (40_pulse_timer.md R90). -/
def instantRate (c : Config) (p : Word) : Word := sat32 (c.fClk * 2 ^ 16 / p.toNat)

/-- The low-pass step of FPS (40_pulse_timer.md R90). -/
def smoothFps (c : Config) (fps p : Word) : Word :=
  BitVec.ofInt 32 (fps.toNat + asr ((instantRate c p).toNat - fps.toNat) c.fpsShift)

/-- FPSUPDATE (40_pulse_timer.md R90). -/
def fpsUpdate (p : Word) (s : State) : State := { s with pt := { s.pt with fps := smoothFps s.cfg s.pt.fps p } }

/-- The end of PULSE.ACCEPT (40_pulse_timer.md R86): PERIOD, SYNC_VALID and the signal `accepted`. -/
def publish (p : Word) (s : State) : State :=
  { s with
    pt := { s.pt with period := p, syncValid := true }
    wires := { s.wires with accepted := true } }

/-- PULSE.ACCEPT (40_pulse_timer.md R86), from the values its pulse measured. -/
def acceptPulse (p tcOld : Word) (s : State) : State :=
  publish p (fpsUpdate p (divide p (setTarget (errUpdate s.pt.syncValid tcOld s))))

/-- EV.PULSE.FIRST (40_pulse_timer.md R82, R83). -/
def execEvPulseFirst (s : State) : Result :=
  let m := measure s
  .next { m with pt := { m.pt with haveLast := true } }

/-- EV.PULSE.SHORT (40_pulse_timer.md R82, R84). -/
def execEvPulseShort (s : State) : Result := .next (takeSensorFault .short (measure s))

/-- EV.PULSE.LONG (40_pulse_timer.md R82, R85). -/
def execEvPulseLong (s : State) : Result := .next (takeSensorFault .long (measure s))

/-- EV.PULSE.ACCEPT (40_pulse_timer.md R82, R86 to R90). -/
def execEvPulseAccept (s : State) : Result := .next (acceptPulse (elapsedNext s) s.pc.tc (measure s))

/-- EV.TIMEOUT (40_pulse_timer.md R81). -/
def execEvTimeout (s : State) : Result := .next (takeSensorFault .timeout s)

/-- The count of ELAPSE (40_pulse_timer.md R80). -/
def countElapsed (s : State) : State := { s with pt := { s.pt with e := elapsedNext s } }

/-- The condition of EV.TIMEOUT, on the incremented E (40_pulse_timer.md R80, R81). -/
def timeoutDue (s : State) : Bool := s.pt.syncValid && decide (s.cfg.pMax < s.pt.e.toNat)

/-- EV.ELAPSE (40_pulse_timer.md R80); it performs EV.TIMEOUT where the incremented E is past the window. -/
def execEvElapse (s : State) : Result :=
  let c := countElapsed s
  if timeoutDue c then execEvTimeout c else .next c

end Sys2Proof.Machine
end

