-- ==== Sys2Proof/Machine/Reset.lean ====
section
/-! DEFINITION. The reset of the block, EV.RESET. -/

namespace Sys2Proof.Machine

/-- RESET (70_reset_and_hazards.md R166): every element but STORE takes its reset value. The model's own fields
other than `launched` keep theirs: they are no elements of the block. -/
def resetBlock (s : State) : State :=
  { s with
    launched := true
    sync := { syncMeta := true, syncQ := true, syncPrev := true }
    pt := { e := 0, haveLast := false, syncValid := false, period := 0, err := 0, fps := 0, revTicks := 0 }
    pc :=
      { t := BitVec.ofNat 17 s.cfg.n, q := 0, r := 0, acc := 0, ctr := 0, tc := 0, pIdx := 0, aligned := false
        phaseOffset := BitVec.ofNat 16 s.cfg.phaseOffsetRst }
    fs := { active := .slot0, ready := false, activeValid := false, swapCount := 0, loadPtr := 0 }
    dm := { dacR := 0, dacG := 0, dacB := 0 }
    hb :=
      { swapIe := false, faultIe := false, swapped := false, fShort := false, fLong := false, fTimeout := false
        fLoadOvf := false } }

/-- EV.RESET (70_reset_and_hazards.md R166). -/
def execEvReset (s : State) : Result := .next (resetBlock s)

end Sys2Proof.Machine
end

