-- ==== Sys2Proof/Machine/Dispatch.lean ====
section
/-! DEFINITION. The dispatch: one arm per constructor of Instr. -/

namespace Sys2Proof.Machine

def exec (i : Instr) (s : State) : Host.Outcome State Fault Refusal :=
  match i with
  | .nop => Sys2Proof.Machine.execNop s
  | .rdCtrl => Sys2Proof.Machine.execRdCtrl s
  | .rdStatus => Sys2Proof.Machine.execRdStatus s
  | .rdLoadptr => Sys2Proof.Machine.execRdLoadptr s
  | .rdWoLoaddata => Sys2Proof.Machine.execRdWoLoaddata s
  | .rdWoCmd => Sys2Proof.Machine.execRdWoCmd s
  | .rdPeriod => Sys2Proof.Machine.execRdPeriod s
  | .rdPixq => Sys2Proof.Machine.execRdPixq s
  | .rdPixr => Sys2Proof.Machine.execRdPixr s
  | .rdTarget => Sys2Proof.Machine.execRdTarget s
  | .rdPixerr => Sys2Proof.Machine.execRdPixerr s
  | .rdFps => Sys2Proof.Machine.execRdFps s
  | .rdPos => Sys2Proof.Machine.execRdPos s
  | .rdSwapcnt => Sys2Proof.Machine.execRdSwapcnt s
  | .rdRevticks => Sys2Proof.Machine.execRdRevticks s
  | .rdRsv14 => Sys2Proof.Machine.execRdRsv14 s
  | .rdRsv15 => Sys2Proof.Machine.execRdRsv15 s
  | .wrCtrl wdata => Sys2Proof.Machine.execWrCtrl wdata s
  | .wrStatus wdata => Sys2Proof.Machine.execWrStatus wdata s
  | .wrLoadptr wdata => Sys2Proof.Machine.execWrLoadptr wdata s
  | .wrLoaddata wdata => Sys2Proof.Machine.execWrLoaddata wdata s
  | .wrCmd wdata => Sys2Proof.Machine.execWrCmd wdata s
  | .wrRoPeriod wdata => Sys2Proof.Machine.execWrRoPeriod wdata s
  | .wrRoPixq wdata => Sys2Proof.Machine.execWrRoPixq wdata s
  | .wrRoPixr wdata => Sys2Proof.Machine.execWrRoPixr wdata s
  | .wrRoTarget wdata => Sys2Proof.Machine.execWrRoTarget wdata s
  | .wrRoPixerr wdata => Sys2Proof.Machine.execWrRoPixerr wdata s
  | .wrRoFps wdata => Sys2Proof.Machine.execWrRoFps wdata s
  | .wrRoPos wdata => Sys2Proof.Machine.execWrRoPos wdata s
  | .wrRoSwapcnt wdata => Sys2Proof.Machine.execWrRoSwapcnt wdata s
  | .wrRoRevticks wdata => Sys2Proof.Machine.execWrRoRevticks wdata s
  | .wrRsv14 wdata => Sys2Proof.Machine.execWrRsv14 wdata s
  | .wrRsv15 wdata => Sys2Proof.Machine.execWrRsv15 wdata s
  | .evReset => Sys2Proof.Machine.execEvReset s
  | .evPulseFirst => Sys2Proof.Machine.execEvPulseFirst s
  | .evPulseShort => Sys2Proof.Machine.execEvPulseShort s
  | .evPulseLong => Sys2Proof.Machine.execEvPulseLong s
  | .evPulseAccept => Sys2Proof.Machine.execEvPulseAccept s
  | .evElapse => Sys2Proof.Machine.execEvElapse s
  | .evTimeout => Sys2Proof.Machine.execEvTimeout s
  | .evTimer => Sys2Proof.Machine.execEvTimer s
  | .evTick => Sys2Proof.Machine.execEvTick s

end Sys2Proof.Machine
end

