-- ==== Sys2Proof/Machine/Cycle.lean ====
section
/-! DEFINITION. One cycle of the block (40_pulse_timer.md R75): its inputs, its outputs, and the order of its parts. -/

namespace Sys2Proof.Machine

/-- The inputs of the next cycle: those the run lists, or free values (log entry 3). -/
def nextInput (s : State) : CycleInput :=
  match s.inputs with
  | i :: _ => i
  | [] => { rst := Config.freeRst s.cycle, syncIn := Config.freeSync s.cycle, word := Config.freeWord s.cycle }

/-- The ports before any read is put on the bus: the registered outputs are those of the start state and `bus_rdata`
is 0 (00_scope.md R16, 43_dac_mapper.md R121, 44_host_bus.md R125). -/
def portsOf (s : State) : Outputs :=
  { dacR := s.dm.dacR, dacG := s.dm.dacG, dacB := s.dm.dacB, irq := irqLevel s, busRdata := 0 }

/-- The start of a cycle: drive the ports from `S_c`, clear the internal signals, and take the cycle's input off
the list. -/
def beginCycle (s : State) : State :=
  { s with out := portsOf s, wires := CycleWires.clear, inputs := s.inputs.tail, cycle := s.cycle + 1 }

/-- The part of a transaction that belongs to the start of its cycle: a read of `S_c`, or a NOP (40_pulse_timer.md
R75, 44_host_bus.md R125, R127). -/
def startTransaction (w : TxWord) (s : State) : Result :=
  if w.sel && w.we then .next s else exec (decode w) s

/-- The part of a transaction that ends its cycle: a write (40_pulse_timer.md R75 step 5, 44_host_bus.md R126). -/
def endTransaction (w : TxWord) (s : State) : Result :=
  if w.sel && w.we then exec (decode w) s else .next s

/-- Step 2 of 40_pulse_timer.md R75: the pulse event of its class, or the elapse. -/
def pulseTimerPart (s : State) : Result :=
  if s.wires.pulse then exec (pulseClass s) s else exec .evElapse s

/-- Steps 3 and 4 of 40_pulse_timer.md R75: the pixel timer, and the tick if it fired. That the pixel timer is EV.TIMER
in a tick cycle too is log entry 11. -/
def pixelClockPart (s : State) : Result :=
  andThen (exec .evTimer s) fun t => if t.wires.tick then exec .evTick t else .next t

/-- Steps 1 to 5 of 40_pulse_timer.md R75. -/
def runningCycle (i : CycleInput) (s : State) : Result :=
  andThen (pulseTimerPart (synchronise i.syncIn s)) fun p =>
    andThen (pixelClockPart p) (endTransaction i.word)

/-- The step of one cycle with given inputs (40_pulse_timer.md R75): outputs and read, then reset, or the running
parts. In a reset cycle nothing else runs and a write is dropped (70_reset_and_hazards.md R166). -/
def cycleWith (i : CycleInput) (s : State) : Result :=
  andThen (startTransaction i.word (beginCycle s)) fun b =>
    if i.rst then exec .evReset b else runningCycle i b

end Sys2Proof.Machine
end

