-- ==== Sys2Proof/Machine/Step.lean ====
section
/-! DEFINITION. The step of the machine: one clock cycle. -/

namespace Sys2Proof.Machine

/-- One cycle. A configuration that is none of this block is refused (00_scope.md R10), and so is a run whose first
cycle after power-up is no reset cycle (70_reset_and_hazards.md R167). -/
def step (s : State) : Host.Outcome State Fault Refusal :=
  if s.cfg.Legal then
    if !s.launched && !(nextInput s).rst then .refused .runNotStartedByReset
    else cycleWith (nextInput s) s
  else .refused .illegalConfiguration

/-- The next cycle's inputs with a given transaction word and `rst` = 0. Where the run lists none, `sync_in` is held
at the level last sampled (log entry 4). -/
def inputWithWord (s : State) (w : TxWord) : CycleInput :=
  match s.inputs with
  | i :: _ => { i with rst := false, word := w }
  | [] => { rst := false, syncIn := s.sync.syncMeta, word := w }

/-- The state in which the host presents a transaction word in the next cycle, which is where the block takes its
next transaction from. -/
def State.withFetchWord (s : State) (nbits w : Nat) : State :=
  { s with inputs := inputWithWord s (BitVec.ofNat 38 (w % 2 ^ nbits)) :: s.inputs.tail }

end Sys2Proof.Machine
end

