-- ==== Sys2Proof/Machine/HostProgram.lean ====
section
/-! DEFINITION. Host programs: the assembler's statements, its text form, the pseudo-instructions and the timelines of
30_encoding.md R73 and R74 (log entry 15). -/

namespace Sys2Proof.Machine

/-- A statement of a host program (30_encoding.md R73); a register is its word address. -/
inductive HostStmt where
  /-- `NOP`. -/
  | nop
  /-- `RD <reg>`. -/
  | rd (reg : BitVec 4)
  /-- `WR <reg>, <expr>`, the expression's value. -/
  | wr (reg : BitVec 4) (value : Word)
deriving DecidableEq, Repr

/-- The transaction of a statement (30_encoding.md R68, R73). -/
def stmtInstr : HostStmt → Instr
  | .nop => .nop
  | .rd reg => decodeRead reg
  | .wr reg value => decodeWrite reg value

/-- The transaction word of a statement (30_encoding.md R65 to R67). -/
def stmtWord : HostStmt → TxWord
  | .nop => busWord false false 0 0
  | .rd reg => busWord true false reg 0
  | .wr reg value => busWord true true reg value

/-- The register names of 30_encoding.md R73 with their word addresses (10_state.md R32). -/
def registerNames : List (List Char × BitVec 4) := [
  (['C', 'T', 'R', 'L'], 0x0), (['S', 'T', 'A', 'T', 'U', 'S'], 0x1), (['L', 'O', 'A', 'D', 'P', 'T', 'R'], 0x2),
  (['L', 'O', 'A', 'D', 'D', 'A', 'T', 'A'], 0x3), (['C', 'M', 'D'], 0x4), (['P', 'E', 'R', 'I', 'O', 'D'], 0x5),
  (['P', 'I', 'X', 'Q'], 0x6), (['P', 'I', 'X', 'R'], 0x7), (['T', 'A', 'R', 'G', 'E', 'T'], 0x8),
  (['P', 'I', 'X', 'E', 'R', 'R'], 0x9), (['F', 'P', 'S'], 0xA), (['P', 'O', 'S'], 0xB),
  (['S', 'W', 'A', 'P', 'C', 'N', 'T'], 0xC), (['R', 'E', 'V', 'T', 'I', 'C', 'K', 'S'], 0xD),
  (['R', 'S', 'V', '1', '4'], 0xE), (['R', 'S', 'V', '1', '5'], 0xF)]

/-- The named constants of 30_encoding.md R73. -/
def namedConstants : List (List Char × Nat) := [
  (['S', 'W', 'A', 'P', '_', 'I', 'E'], 0x10000), (['F', 'A', 'U', 'L', 'T', '_', 'I', 'E'], 0x20000),
  (['A', 'C', 'K', '_', 'S', 'W', 'A', 'P', 'P', 'E', 'D'], 0x100),
  (['A', 'C', 'K', '_', 'S', 'H', 'O', 'R', 'T'], 0x200), (['A', 'C', 'K', '_', 'L', 'O', 'N', 'G'], 0x400),
  (['A', 'C', 'K', '_', 'T', 'I', 'M', 'E', 'O', 'U', 'T'], 0x800),
  (['A', 'C', 'K', '_', 'L', 'O', 'A', 'D', 'O', 'V', 'F'], 0x1000), (['A', 'C', 'K', '_', 'A', 'L', 'L'], 0x1F00),
  (['D', 'O', '_', 'C', 'O', 'M', 'M', 'I', 'T'], 1)]

/-- The value paired with a name. -/
def lookupName {α : Type} (name : List Char) : List (List Char × α) → Option α
  | [] => none
  | (n, v) :: rest => if n = name then some v else lookupName name rest

/-- A space or a tab. -/
def isBlank (c : Char) : Bool := c = ' ' || c = '\t'

/-- Text without the blanks at its two ends. -/
def trimBlanks (cs : List Char) : List Char := ((cs.dropWhile isBlank).reverse.dropWhile isBlank).reverse

/-- Text before and after the first occurrence of a character; no second part where there is none. -/
def cutAt (c : Char) : List Char → List Char × Option (List Char)
  | [] => ([], none)
  | x :: xs => if x = c then ([], some xs) else ((x :: (cutAt c xs).1), (cutAt c xs).2)

/-- The parts of a text between the occurrences of a character. -/
def splitAt (c : Char) : List Char → List (List Char)
  | [] => [[]]
  | x :: xs =>
    if x = c then [] :: splitAt c xs
    else
      match splitAt c xs with
      | [] => [[x]]
      | part :: parts => (x :: part) :: parts

/-- The value of a digit in a base of at most 16. -/
def digitValue (base : Nat) (c : Char) : Option Nat :=
  let n := c.toNat
  let v := if 48 ≤ n ∧ n ≤ 57 then n - 48 else if 65 ≤ n ∧ n ≤ 70 then n - 55 else if 97 ≤ n ∧ n ≤ 102 then n - 87 else 16
  if v < base then some v else none

/-- The value of a digit string after a leading value; `_` separates digit groups (00_scope.md R13). -/
def digitsValue (base : Nat) : List Char → Nat → Option Nat
  | [], acc => some acc
  | c :: cs, acc =>
    if c = '_' then digitsValue base cs acc
    else
      match digitValue base c with
      | some v => digitsValue base cs (acc * base + v)
      | none => none

/-- A decimal or 0x literal. -/
def literalValue : List Char → Option Nat
  | '0' :: 'x' :: c :: cs => digitsValue 16 (c :: cs) 0
  | c :: cs => if (digitValue 10 c).isSome then digitsValue 10 (c :: cs) 0 else none
  | [] => none

/-- One operand of an expression: a named constant or a literal. -/
def termValue (cs : List Char) : Option Nat :=
  match lookupName cs namedConstants with
  | some v => some v
  | none => literalValue cs

/-- The bitwise or of the parts of an expression. -/
def orTerms : List (List Char) → Option Nat
  | [] => some 0
  | p :: ps =>
    match termValue (trimBlanks p), orTerms ps with
    | some a, some b => some (a ||| b)
    | _, _ => none

/-- `<expr>` of 30_encoding.md R73; its value must fit 32 bits. -/
def exprValue (cs : List Char) : Option Word :=
  match orTerms (splitAt '|' cs) with
  | some v => if v < 2 ^ 32 then some (BitVec.ofNat 32 v) else none
  | none => none

/-- `<reg>` of 30_encoding.md R73: a register name, or `@n` for a raw word address. -/
def registerAddress (cs : List Char) : Option (BitVec 4) :=
  match cs with
  | '@' :: c :: ds =>
    match digitsValue 10 (c :: ds) 0 with
    | some n => if n < 16 then some (BitVec.ofNat 4 n) else none
    | none => none
  | _ => lookupName cs registerNames

/-- One statement of 30_encoding.md R73, without its label and comment. -/
def parseStmt (cs : List Char) : Option HostStmt :=
  let op := cs.takeWhile fun c => !isBlank c
  let rest := trimBlanks (cs.dropWhile fun c => !isBlank c)
  if op = ['N', 'O', 'P'] then (if rest = [] then some .nop else none)
  else if op = ['R', 'D'] then (registerAddress rest).map HostStmt.rd
  else if op = ['W', 'R'] then
    match cutAt ',' rest with
    | (reg, some expr) =>
      match registerAddress (trimBlanks reg), exprValue (trimBlanks expr) with
      | some a, some v => some (.wr a v)
      | _, _ => none
    | (_, none) => none
  else none

/-- One line `[label:] stmt [; comment]` of a host program (30_encoding.md R73). -/
def parseLine (cs : List Char) : Option HostStmt :=
  let code := (cutAt ';' cs).1
  match cutAt ':' code with
  | (_, some stmt) => parseStmt (trimBlanks stmt)
  | (_, none) => parseStmt (trimBlanks code)

/-- The pseudo-instructions of 30_encoding.md R74 that expand to transactions. -/
inductive Pseudo where
  /-- `SEEK o`. -/
  | seek (o : Word)
  /-- `PUTB b`. -/
  | putb (b : Word)
  /-- `PUTPIX r, g, b`. -/
  | putpix (r g b : Word)
  /-- `COMMIT`. -/
  | commit
  /-- `LOADFRAME b0, …`. -/
  | loadframe (bytes : List Word)
  /-- `ACKSWAP`. -/
  | ackswap
  /-- `ACKALL`. -/
  | ackall
  /-- `SETCTRL k, s, f`. -/
  | setctrl (k : BitVec 16) (s f : Bool)
  /-- `WAIT n`. -/
  | wait (n : Nat)
deriving DecidableEq, Repr

/-- The expansion of a pseudo-instruction, one transaction a cycle in order (30_encoding.md R74). -/
def expandPseudo : Pseudo → List HostStmt
  | .seek o => [.wr 0x2 o]
  | .putb b => [.wr 0x3 b]
  | .putpix r g b => [.wr 0x3 r, .wr 0x3 g, .wr 0x3 b]
  | .commit => [.wr 0x4 1]
  | .loadframe bytes => .wr 0x2 0 :: bytes.map (fun b => .wr 0x3 b) ++ [.wr 0x4 1]
  | .ackswap => [.wr 0x1 0x100]
  | .ackall => [.wr 0x1 0x1F00]
  | .setctrl k s f => [.wr 0x0 (k.setWidth 32 ||| (BitVec.ofBool s).setWidth 32 <<< 16 ||| (BitVec.ofBool f).setWidth 32 <<< 17)]
  | .wait n => List.replicate n .nop

/-- `POLL reg, mask, val` repeats `RD reg` until this holds of the read data; it is host control flow
(30_encoding.md R74). -/
def pollExits (busRdata mask val : Word) : Bool := busRdata &&& mask == val

/-- The level of `sync_in` in cycle c under the stimulus lines `p: PULSE` of a timeline: 1 in cycle p − 2 and 0 in
the cycle before it (30_encoding.md R73). -/
def pulseLevel (pulses : List Nat) (c : Nat) : Bool := pulses.contains (c + 2)

/-- The inputs of the cycles from `c` on: one statement a cycle, with the pulses of a timeline and no reset. -/
def timeline (pulses : List Nat) : List HostStmt → Nat → List CycleInput
  | [], _ => []
  | st :: rest, c =>
    { rst := false, syncIn := pulseLevel pulses c, word := stmtWord st } :: timeline pulses rest (c + 1)

end Sys2Proof.Machine
end

