-- ==== Sys2Proof/Safety.lean ====
section
/-! DEFINITION. What the claims are stated in: runs, their outputs, and what holds of every reachable state. -/

namespace Sys2Proof.Machine

/-- A run of `k` cycles (70_reset_and_hazards.md R171). -/
def runCycles : Nat → State → Result
  | 0, s => .next s
  | k + 1, s => andThen (step s) (runCycles k)

/-- The outputs of the first `k` cycles of a run, up to its first stop (70_reset_and_hazards.md R171). -/
def outputTrace : Nat → State → List Outputs
  | 0, _ => []
  | k + 1, s =>
    match step s with
    | .next t => t.out :: outputTrace k t
    | .fault _ => []
    | .refused _ => []

/-- Transactions and events executed one after another, each on the state the one before it left. -/
def execAll : List Instr → State → Result
  | [], s => .next s
  | i :: is, s => andThen (exec i s) (execAll is)

/-- `k` cycles lead from one state to another with no reset and no pulse event among them. -/
def quietRun : Nat → State → State → Prop
  | 0, s, t => s = t
  | k + 1, s, t => ∃ m, step s = .next m ∧ (nextInput s).rst = false ∧ m.wires.pulse = false ∧ quietRun k m t

/-- The cycle from `s` to `t` has an alignment at a non-zero index: its tick finds PHASE_OFFSET = TC, where a pulse
event has set TC to 0 before the tick, and P_IDX is not 0 (41_pixel_clock.md R100, R103, 40_pulse_timer.md R82). -/
def realigns (s t : State) : Bool :=
  t.wires.tick && decide (s.pc.phaseOffset.toNat = if t.wires.pulse then 0 else s.pc.tc.toNat) &&
    decide (s.pc.pIdx ≠ 0)

/-- `k` cycles with `n` ticks lead from one state to another, with no reset, no idle entry and no alignment at a
non-zero index among them (41_pixel_clock.md R103). Pulse events and host writes may be among them. -/
def frameRun : Nat → Nat → State → State → Prop
  | 0, n, s, t => n = 0 ∧ s = t
  | k + 1, n, s, t => ∃ m j, step s = .next m ∧ (nextInput s).rst = false ∧ m.wires.enterIdle = false ∧
      realigns s m = false ∧ n = m.wires.tick.toNat + j ∧ frameRun k j m t

/-- The sum of the next `k` intervals of the pixel clock (41_pixel_clock.md R94, R96). -/
def intervalSum : Nat → PixelClock → Nat
  | 0, _ => 0
  | k + 1, pc => (nextInterval pc).2.toNat + intervalSum k { pc with acc := (nextInterval pc).1 }

/-- The inputs of a host that issues `LOADFRAME bytes` (30_encoding.md R74), one transaction a cycle with no reset,
under the given levels of `sync_in`. -/
def fillInputs (levels : List Bool) (bytes : List Word) : List CycleInput :=
  List.zipWith (fun y st => { rst := false, syncIn := y, word := stmtWord st }) levels (expandPseudo (.loadframe bytes))

/-- The blank DAC registers (43_dac_mapper.md R120). -/
def blankDac : DacRegs := { dacR := 0, dacG := 0, dacB := 0 }

/-- A tick in this state is the alignment tick: PHASE_OFFSET = TC (41_pixel_clock.md R100). -/
def tickHits (s : State) : Bool := decide (s.pc.phaseOffset.toNat = s.pc.tc.toNat)

/-- A tick in this state is aligned, after its alignment check (41_pixel_clock.md R99). -/
def tickAligned (s : State) : Bool := s.pc.aligned || tickHits s

/-- The index a tick in this state emits (41_pixel_clock.md R99, R100). -/
def tickIndex (s : State) : Nat := if tickHits s then 0 else s.pc.pIdx.toNat

/-- A tick in this state is a frame start (41_pixel_clock.md R101). -/
def tickIsFrameStart (s : State) : Bool := tickAligned s && decide (tickIndex s = 0)

/-- A tick in this state swaps the slots (42_frame_store.md R107). -/
def tickSwaps (s : State) : Bool := tickIsFrameStart s && s.fs.ready

/-- The slot a tick in this state emits from (42_frame_store.md R106, R107). -/
def tickSlot (s : State) : Slot := if tickSwaps s then otherSlot s.fs.active else s.fs.active

/-- What 10_state.md R30 says of every reachable state, clause by clause. -/
structure StateFacts (s : State) : Prop where
  /-- 0 ≤ P_IDX < N. -/
  pIdx_lt : s.pc.pIdx.toNat < s.cfg.n
  /-- N − E_MAX ≤ T. -/
  t_lower : s.cfg.n ≤ s.pc.t.toNat + s.cfg.eMax
  /-- T ≤ N + E_MAX. -/
  t_upper : s.pc.t.toNat ≤ s.cfg.n + s.cfg.eMax
  /-- 0 ≤ R < T. -/
  r_lt : s.pc.r.toNat < s.pc.t.toNat
  /-- 0 ≤ ACC < T. -/
  acc_lt : s.pc.acc.toNat < s.pc.t.toNat
  /-- SYNC_VALID = 1 implies CTR ≥ 1. -/
  live_ctr : s.pt.syncValid = true → 1 ≤ s.pc.ctr.toNat
  /-- SYNC_VALID = 1 implies Q ≥ 1. -/
  live_q : s.pt.syncValid = true → 1 ≤ s.pc.q.toNat
  /-- ALIGNED = 1 implies SYNC_VALID = 1. -/
  aligned_live : s.pc.aligned = true → s.pt.syncValid = true
  /-- SYNC_VALID = 1 implies HAVE_LAST = 1. -/
  live_armed : s.pt.syncValid = true → s.pt.haveLast = true
  /-- SYNC_VALID = 0 implies DAC_R = DAC_G = DAC_B = 0. -/
  idle_blank : s.pt.syncValid = false → s.dm = blankDac
  /-- ACTIVE_VALID = 0 implies SWAP_COUNT = 0. -/
  unswapped : s.fs.activeValid = false → s.fs.swapCount = 0
  /-- LOAD_PTR ≤ 2^18 − 1. -/
  loadPtr_le : s.fs.loadPtr.toNat ≤ 2 ^ 18 - 1

/-- The invariant every step keeps: the configuration is legal, the machine has been reset, the facts of 10_state.md
R30 hold, and so does what they rest on: the relation of Q and R to PERIOD and T (70_reset_and_hazards.md R178), an
accepted period (40_pulse_timer.md R86), no overdue timeout (R81), and a store of existing cells in canonical form
(20_memory.md R48). -/
structure StateInv (s : State) : Prop where
  /-- The configuration is one of this block (00_scope.md R10). -/
  legal : s.cfg.Legal
  /-- A reset has happened (70_reset_and_hazards.md R167). -/
  launched : s.launched = true
  /-- 10_state.md R30. -/
  facts : StateFacts s
  /-- Q = PERIOD div T. -/
  q_eq : s.pc.q.toNat = s.pt.period.toNat / s.pc.t.toNat
  /-- R = PERIOD mod T. -/
  r_eq : s.pc.r.toNat = s.pt.period.toNat % s.pc.t.toNat
  /-- PERIOD is 0 until the first accepted pulse, and then a plausible period. -/
  period_ok : s.pt.period = 0 ∨ (s.cfg.pMin ≤ s.pt.period.toNat ∧ s.pt.period.toNat ≤ s.cfg.pMax)
  /-- While live a period has been accepted. -/
  live_period : s.pt.syncValid = true → s.pt.period ≠ 0
  /-- While live the timeout window has not passed. -/
  live_elapsed : s.pt.syncValid = true → s.pt.e.toNat ≤ s.cfg.pMax
  /-- The store is in canonical form. -/
  store_wf : Memory.wf s.store = true
  /-- Every listed cell exists. -/
  store_within : Memory.within s.cfg s.store = true

end Sys2Proof.Machine
end

