-- ==== Sys2Proof/Certificates/Slice0/Obligations.lean ====
section
/-! DEFINITION. The statements about the model, one proposition each; OBLIGATIONS.json lists them. -/

open Sys2Proof Sys2Proof.Machine

/-! ## Encoding (30_encoding.md) -/

/-- Decoding the canonical word of any transaction gives the transaction back, with every WDATA (30_encoding.md R64 to
R68). -/
def Obligations.DecodeAfterEncodeIsIdentity : Prop :=
  ∀ i : Instr, i.wellFormed = true → ∃ w, encode i = some w ∧ decode w = i

/-- 30_encoding.md R68: every 38-bit word selects exactly one row of the table, and the decoder gives that row's
operation. -/
def Obligations.EveryWordSelectsOneTableRow : Prop :=
  ∀ w : TxWord, (opcodeRows.filter fun r => r.selects w).map OpcodeRow.mnemonic = [(decode w).mnemonic]

/-- 30_encoding.md R65: a word with SEL = 0 is NOP whatever its other bits; it reads and writes no register and its
read data is 0; the canonical NOP word is 0. -/
def Obligations.WordWithSelZeroIsNop : Prop :=
  (∀ w : TxWord, w.getLsbD 37 = false → decode w = .nop) ∧
    (∀ s : State, exec .nop s = .next { s with out := { s.out with busRdata := 0 } }) ∧
    encode .nop = some 0x0000000000#38

/-- 30_encoding.md R66 and R67: the read and the write of the register at ADDR, their canonical words, and the
ignored WDATA of a read. -/
def Obligations.ReadAndWriteWordsOfAnAddress : Prop :=
  (∀ w : TxWord, w.getLsbD 37 = true → w.getLsbD 36 = false →
    decode w = decodeRead (w.extractLsb' 32 4) ∧
      ∀ s : State, exec (decode w) s =
        .next { s with out := { s.out with busRdata := readRegister (w.extractLsb' 32 4) s } }) ∧
  (∀ a : BitVec 4, encode (decodeRead a) = some (0x2000000000#38 ||| a.setWidth 38 <<< 32)) ∧
  (∀ w : TxWord, w.getLsbD 37 = true → w.getLsbD 36 = true →
    decode w = decodeWrite (w.extractLsb' 32 4) (w.extractLsb' 0 32)) ∧
  (∀ (a : BitVec 4) (d : Word),
    encode (decodeWrite a d) = some (0x3000000000#38 ||| a.setWidth 38 <<< 32 ||| d.setWidth 38)) ∧
  encode .rdFps = some 0x2A00000000#38 ∧ encode (.wrCmd 1) = some 0x3400000001#38

/-- Words written out from 30_encoding.md R68 and 95_test_vectors.md section 2.6 decode to the operations they stand
for. -/
def Obligations.WrittenOutWordsDecode : Prop :=
  decode 0x0000000000#38 = .nop ∧ decode 0x1FFFFFFFFF#38 = .nop ∧ decode 0x2A00000000#38 = .rdFps ∧
    decode 0x2400000000#38 = .rdWoCmd ∧ decode 0x3000010003#38 = .wrCtrl 0x10003 ∧
    decode 0x3100001F00#38 = .wrStatus 0x1F00 ∧ decode 0x32FFFFFFFF#38 = .wrLoadptr 0xFFFFFFFF ∧
    decode 0x33000001AB#38 = .wrLoaddata 0x1AB ∧ decode 0x3400000001#38 = .wrCmd 1 ∧
    decode 0x3500000005#38 = .wrRoPeriod 5 ∧ decode 0x3E00000009#38 = .wrRsv14 9 ∧
    decode 0x2E00000000#38 = .rdRsv14

/-! ## The step (40_pulse_timer.md R75) -/

/-- A step runs the presented transaction: a read or NOP at the start of its cycle, a write at the end of a cycle
without reset, where a reset cycle drops it; and between them it runs the parts of the cycle in the order of
40_pulse_timer.md R75. How these parts are cut into event rows is the model's choice (log entry 11): EV.TIMER runs in
every cycle without reset, tick cycles included, where R70 and R93 name the event EV.TIMER only when no tick fires. -/
def Obligations.StepRunsPresentedTransaction : Prop :=
  (∀ (s : State) (i : Instr) (rst y : Bool) (w : TxWord) (rest : List CycleInput),
    s.cfg.Legal → s.launched = true → s.inputs = { rst := rst, syncIn := y, word := w } :: rest → decode w = i →
    step s =
      if w.sel && w.we then
        if rst then exec .evReset (beginCycle s)
        else
          andThen (pulseTimerPart (synchronise y (beginCycle s))) fun p => andThen (pixelClockPart p) (exec i)
      else
        andThen (exec i (beginCycle s)) fun b =>
          if rst then exec .evReset b else andThen (pulseTimerPart (synchronise y b)) pixelClockPart) ∧
  (∀ s : State, pulseTimerPart s = if s.wires.pulse then exec (pulseClass s) s else exec .evElapse s) ∧
  (∀ s : State, pixelClockPart s =
    andThen (exec .evTimer s) fun t => if t.wires.tick then exec .evTick t else .next t)

/-- 00_scope.md R10: a configuration that breaks a range of R9 is refused at every step. The refusal at the step is
the model's choice (log entry 2). -/
def Obligations.IllegalConfigurationIsRefused : Prop :=
  ∀ s : State, ¬s.cfg.Legal → step s = .refused .illegalConfiguration

/-- 70_reset_and_hazards.md R167: from power-up, a first cycle without reset is refused, and one with reset puts every
element of the block at its reset value and leaves the store. -/
def Obligations.RunMustStartWithReset : Prop :=
  ∀ s : State, s.cfg.Legal → s.launched = false →
    ((nextInput s).rst = false → step s = .refused .runNotStartedByReset) ∧
    ((nextInput s).rst = true → ∃ t, step s = .next t ∧ t.launched = true ∧ t.store = s.store ∧
      t.sync = (State.resetOf s.cfg).sync ∧ t.pt = (State.resetOf s.cfg).pt ∧ t.pc = (State.resetOf s.cfg).pc ∧
      t.fs = (State.resetOf s.cfg).fs ∧ t.dm = (State.resetOf s.cfg).dm ∧ t.hb = (State.resetOf s.cfg).hb)

/-! ## Reset (70_reset_and_hazards.md, 10_state.md R31) -/

/-- 10_state.md R31: reset gives every element the value of the table, and STORE keeps every cell; after power-up
every cell is ⊥. -/
def Obligations.ResetGivesTheTableValues : Prop :=
  (∀ s : State, s.cfg.Legal → ∃ t, exec .evReset s = .next t ∧
    t.sync = { syncMeta := true, syncQ := true, syncPrev := true } ∧
    t.pt = { e := 0, haveLast := false, syncValid := false, period := 0, err := 0, fps := 0, revTicks := 0 } ∧
    t.pc.t.toNat = s.cfg.n ∧ t.pc.phaseOffset.toNat = s.cfg.phaseOffsetRst ∧
    t.pc = { q := 0, r := 0, acc := 0, ctr := 0, tc := 0, pIdx := 0, aligned := false, t := t.pc.t
             phaseOffset := t.pc.phaseOffset } ∧
    t.fs = { active := .slot0, ready := false, activeValid := false, swapCount := 0, loadPtr := 0 } ∧
    t.store = s.store ∧ t.dm = { dacR := 0, dacG := 0, dacB := 0 } ∧
    t.hb = { swapIe := false, faultIe := false, swapped := false, fShort := false, fLong := false
             fTimeout := false, fLoadOvf := false }) ∧
  ∀ (junk : State) (slot : Slot) (o : Nat), slotByte (State.powerUp junk) slot o = none

/-- 70_reset_and_hazards.md R166: in a reset cycle nothing else of the step runs, the write and the sync sample are
dropped, and the outputs and the read data are those of the start state. -/
def Obligations.ResetCycleOnlyResets : Prop :=
  ∀ s : State, s.cfg.Legal → (nextInput s).rst = true → ∃ t, step s = .next t ∧ t.store = s.store ∧
    t.sync = { syncMeta := true, syncQ := true, syncPrev := true } ∧ t.pt = (State.resetOf s.cfg).pt ∧
    t.pc = (State.resetOf s.cfg).pc ∧ t.fs = (State.resetOf s.cfg).fs ∧ t.dm = blankDac ∧
    t.hb = (State.resetOf s.cfg).hb ∧ t.wires = CycleWires.clear ∧ t.cfg = s.cfg ∧ t.draws = s.draws ∧
    t.out = { dacR := s.dm.dacR, dacG := s.dm.dacG, dacB := s.dm.dacB, irq := irqLevel s
              busRdata := if (nextInput s).word.sel && !(nextInput s).word.we
                then readRegister (nextInput s).word.addr s else 0 }

/-- The model's reset state is what one reset cycle makes of any power-up state in the default configuration
(70_reset_and_hazards.md R167; the configuration is log entry 1's choice). -/
def Obligations.ResetStateFollowsPowerUp : Prop :=
  ∀ (junk : State) (y : Bool) (w : TxWord) (rest : List CycleInput), ∃ t,
    step { State.powerUp junk with
           cfg := Config.defaults, inputs := { rst := true, syncIn := y, word := w } :: rest } = .next t ∧
      t.cfg = State.reset.cfg ∧ t.launched = State.reset.launched ∧ t.sync = State.reset.sync ∧
      t.pt = State.reset.pt ∧ t.pc = State.reset.pc ∧ t.fs = State.reset.fs ∧ t.store = State.reset.store ∧
      t.dm = State.reset.dm ∧ t.hb = State.reset.hb ∧ t.inputs = rest

/-- The reset state of every legal configuration meets the invariant. -/
def Obligations.ResetStatesMeetTheInvariant : Prop :=
  ∀ c : Config, c.Legal → StateInv (State.resetOf c)

/-! ## The pulse timer (40_pulse_timer.md) -/

/-- 40_pulse_timer.md R79: a pulse event occurs in cycle c + 2 exactly when `sync_in` is sampled 0 in cycle c − 1 and
1 in cycle c; two pulse events are at least 2 cycles apart. The four inputs are those of cycles c − 1 to c + 2. -/
def Obligations.PulseEventTwoCyclesAfterEdge : Prop :=
  (∀ (s : State) (x0 x1 x2 x3 : Bool) (w0 w1 w2 w3 : TxWord) (rest : List CycleInput), StateInv s →
    s.inputs = { rst := false, syncIn := x0, word := w0 } :: { rst := false, syncIn := x1, word := w1 } ::
      { rst := false, syncIn := x2, word := w2 } :: { rst := false, syncIn := x3, word := w3 } :: rest →
    ∃ t, runCycles 4 s = .next t ∧ (t.wires.pulse = true ↔ x0 = false ∧ x1 = true)) ∧
  ∀ s t u : State, step s = .next t → t.wires.pulse = true → step t = .next u → u.wires.pulse = false

/-- EV.PULSE.FIRST arms the measurement and writes nothing beyond the shared part of a pulse (40_pulse_timer.md R82,
R83). -/
def Obligations.FirstPulseOnlyArms : Prop :=
  ∀ s : State, exec .evPulseFirst s =
    .next { s with
      pt := { s.pt with e := 0, revTicks := s.pc.tc, haveLast := true }
      pc := { s.pc with tc := 0 } }

/-- EV.PULSE.SHORT and EV.PULSE.LONG set their flag, note it in setmask, and go idle; nothing derived from the
rejected period is written (40_pulse_timer.md R82, R84, R85, 60_exceptions.md R149). -/
def Obligations.RejectedPulseSetsItsFlagAndIdles : Prop :=
  ∀ s : State,
    exec .evPulseShort s =
      .next { s with
        pt := { s.pt with e := 0, revTicks := s.pc.tc, syncValid := false }
        pc := { s.pc with tc := 0, aligned := false }
        dm := blankDac
        hb := { s.hb with fShort := true }
        wires := { s.wires with setmask := s.wires.setmask ||| 0x200#32, enterIdle := true } } ∧
    exec .evPulseLong s =
      .next { s with
        pt := { s.pt with e := 0, revTicks := s.pc.tc, syncValid := false }
        pc := { s.pc with tc := 0, aligned := false }
        dm := blankDac
        hb := { s.hb with fLong := true }
        wires := { s.wires with setmask := s.wires.setmask ||| 0x400#32, enterIdle := true } }

/-- EV.PULSE.ACCEPT publishes the measured period and re-times the pixel clock: the exact values of every register it
writes, and everything else unchanged (40_pulse_timer.md R82, R86 to R90). -/
def Obligations.AcceptedPulseRetimesThePixelClock : Prop :=
  ∀ (s : State) (p : Nat), s.cfg.Legal → p = min (s.pt.e.toNat + 1) (2 ^ 32 - 1) →
    ∃ t, exec .evPulseAccept s = .next t ∧
      t.pt.period.toNat = p ∧
      t.pt.err.toInt =
        (if s.pt.syncValid then max (-2 ^ 31) (min (2 ^ 31 - 1) (s.pt.err.toInt + s.cfg.n - s.pc.tc.toNat)) else 0) ∧
      (t.pc.t.toNat : Int) = s.cfg.n + max (-(s.cfg.eMax : Int)) (min s.cfg.eMax t.pt.err.toInt) ∧
      t.pc.q.toNat = p / t.pc.t.toNat ∧ t.pc.r.toNat = p % t.pc.t.toNat ∧
      (t.pt.fps.toNat : Int) =
        s.pt.fps.toNat +
          ((min (s.cfg.fClk * 2 ^ 16 / p) (2 ^ 32 - 1) : Nat) - (s.pt.fps.toNat : Int)) / 2 ^ s.cfg.fpsShift ∧
      t = { s with
        pt := { e := 0, haveLast := s.pt.haveLast, syncValid := true, revTicks := s.pc.tc, period := t.pt.period
                err := t.pt.err, fps := t.pt.fps }
        pc := { s.pc with t := t.pc.t, q := t.pc.q, r := t.pc.r, acc := 0, tc := 0 }
        wires := { s.wires with accepted := true } }

/-- 40_pulse_timer.md R90: the new FPS lies between the old FPS and the instantaneous rate, and is that rate where
FPS_SHIFT is 0. -/
def Obligations.FpsEstimateStaysBetween : Prop :=
  ∀ (c : Config) (fps p : Word), c.Legal →
    min fps.toNat (instantRate c p).toNat ≤ (smoothFps c fps p).toNat ∧
    (smoothFps c fps p).toNat ≤ max fps.toNat (instantRate c p).toNat ∧
    (c.fpsShift = 0 → smoothFps c fps p = instantRate c p)

/-- EV.ELAPSE counts one cycle, saturating, and times out where the block is live and the count is past P_MAX;
EV.TIMEOUT sets F_TIMEOUT and goes idle (40_pulse_timer.md R80, R81, 60_exceptions.md R149). -/
def Obligations.ElapseCountsAndTimesOut : Prop :=
  (∀ s : State, exec .evTimeout s =
    .next { s with
      pt := { s.pt with syncValid := false }
      pc := { s.pc with aligned := false }
      dm := blankDac
      hb := { s.hb with fTimeout := true }
      wires := { s.wires with setmask := s.wires.setmask ||| 0x800#32, enterIdle := true } }) ∧
  ∀ s : State, ∃ e : Word, e.toNat = min (s.pt.e.toNat + 1) (2 ^ 32 - 1) ∧
    exec .evElapse s =
      if s.pt.syncValid = true ∧ s.cfg.pMax < e.toNat then
        .next { s with
          pt := { s.pt with e := e, syncValid := false }
          pc := { s.pc with aligned := false }
          dm := blankDac
          hb := { s.hb with fTimeout := true }
          wires := { s.wires with setmask := s.wires.setmask ||| 0x800#32, enterIdle := true } }
      else .next { s with pt := { s.pt with e := e } }

/-- A saturated elapsed count stays saturated and always classifies as LONG (40_pulse_timer.md R80, R85, 00_scope.md
R10). -/
def Obligations.SaturatedElapsedIsLong : Prop :=
  ∀ s : State, s.cfg.Legal → s.pt.e.toNat = 2 ^ 32 - 1 →
    (elapsedNext s).toNat = 2 ^ 32 - 1 ∧ (s.pt.haveLast = true → pulseClass s = .evPulseLong)

/-- A cycle with a pulse event measures from the previous pulse, restarts E and TC whatever the class, and has the
effect of exactly one class (40_pulse_timer.md R82 to R86). -/
def Obligations.PulseCycleHasOneClass : Prop :=
  ∀ (s : State) (p : Nat), StateInv s → (nextInput s).rst = false → s.sync.syncQ = true → s.sync.syncPrev = false →
    p = min (s.pt.e.toNat + 1) (2 ^ 32 - 1) →
    ∃ t, step s = .next t ∧ t.wires.pulse = true ∧ t.pt.e = 0 ∧ t.pt.revTicks = s.pc.tc ∧ t.pt.haveLast = true ∧
      t.wires.tick = t.wires.accepted ∧ t.pt.syncValid = t.wires.accepted ∧
      t.pc.tc = (if t.wires.accepted then 1 else 0) ∧
      if s.pt.haveLast = false then
        t.wires.accepted = false ∧ t.wires.enterIdle = false ∧ t.pt.period = s.pt.period
      else if p < s.cfg.pMin then
        t.wires.accepted = false ∧ t.hb.fShort = true ∧ t.pc.aligned = false ∧ t.dm = blankDac ∧
          t.pt.period = s.pt.period ∧ t.pt.fps = s.pt.fps ∧ t.pt.err = s.pt.err ∧ t.pc.t = s.pc.t ∧
          t.pc.q = s.pc.q ∧ t.pc.r = s.pc.r ∧ t.pc.acc = s.pc.acc
      else if s.cfg.pMax < p then
        t.wires.accepted = false ∧ t.hb.fLong = true ∧ t.pc.aligned = false ∧ t.dm = blankDac ∧
          t.pt.period = s.pt.period ∧ t.pt.fps = s.pt.fps ∧ t.pt.err = s.pt.err ∧ t.pc.t = s.pc.t ∧
          t.pc.q = s.pc.q ∧ t.pc.r = s.pc.r ∧ t.pc.acc = s.pc.acc
      else t.wires.accepted = true ∧ t.pt.period.toNat = p

/-- 40_pulse_timer.md R81 and 60_exceptions.md R152: after an accepted pulse with no further pulse the block is live
up to P_MAX cycles later, the timeout comes in cycle P_MAX + 1, the ports are blank in the next cycle whatever its
inputs, and as long as no pulse comes no second idle entry and no tick follows and the ports stay blank. -/
def Obligations.TimeoutComesAfterTheWindow : Prop :=
  ∀ (s c t : State) (k : Nat), StateInv s → step s = .next c → c.wires.accepted = true → quietRun k c t →
    (k ≤ c.cfg.pMax → t.pt.syncValid = true ∧ t.pt.e.toNat = k ∧ t.wires.enterIdle = false) ∧
    (k = c.cfg.pMax + 1 → t.hb.fTimeout = true ∧ t.wires.enterIdle = true ∧ t.pt.syncValid = false ∧
      t.pc.aligned = false ∧ t.dm = blankDac ∧
      ∀ u, step t = .next u → u.out.dacR = 0 ∧ u.out.dacG = 0 ∧ u.out.dacB = 0) ∧
    (c.cfg.pMax + 1 < k → t.wires.enterIdle = false ∧ t.wires.tick = false ∧ t.pt.syncValid = false ∧
      t.pc.aligned = false ∧ t.dm = blankDac ∧ t.out.dacR = 0 ∧ t.out.dacG = 0 ∧ t.out.dacB = 0)

/-! ## The pixel clock (41_pixel_clock.md) -/

/-- The pixel timer fires and re-arms with the next interval, holds while idle, or counts down, as the pseudocode of
41_pixel_clock.md R93 and R94 says. That EV.TIMER is this whole operation, run in every cycle without reset, is the
model's choice (log entry 11): R93 names the event EV.TIMER only where no tick fires. The premises follow from the
invariant. -/
def Obligations.PixelTimerFiresHoldsOrCounts : Prop :=
  ∀ s : State, s.pc.acc.toNat < s.pc.t.toNat → s.pc.r.toNat < s.pc.t.toNat → s.pc.q.toNat < 2 ^ 32 - 1 →
    ∃ t, exec .evTimer s = .next t ∧
      (s.wires.accepted = true ∨ (s.pt.syncValid = true ∧ s.pc.ctr.toNat ≤ 1) →
        t = { s with
          pc := { s.pc with acc := t.pc.acc, ctr := t.pc.ctr }
          wires := { s.wires with tick := true } } ∧
        if s.pc.t.toNat ≤ s.pc.acc.toNat + s.pc.r.toNat then
          t.pc.acc.toNat + s.pc.t.toNat = s.pc.acc.toNat + s.pc.r.toNat ∧ t.pc.ctr.toNat = s.pc.q.toNat + 1
        else t.pc.acc.toNat = s.pc.acc.toNat + s.pc.r.toNat ∧ t.pc.ctr = s.pc.q) ∧
      (s.wires.accepted = false → s.pt.syncValid = false → t = { s with wires := { s.wires with tick := false } }) ∧
      (s.wires.accepted = false → s.pt.syncValid = true → 1 < s.pc.ctr.toNat →
        t = { s with pc := { s.pc with ctr := t.pc.ctr }, wires := { s.wires with tick := false } } ∧
        t.pc.ctr.toNat = s.pc.ctr.toNat - 1)

/-- The first k intervals from ACC = 0 sum to k·Q + floor(k·R / T); the T intervals of a revolution sum to T·Q + R
(41_pixel_clock.md R94, R96). -/
def Obligations.IntervalsSumToTheFloorLaw : Prop :=
  ∀ (pc : PixelClock) (k : Nat), pc.acc = 0 → pc.r.toNat < pc.t.toNat → pc.q.toNat < 2 ^ 32 - 1 →
    intervalSum k pc = k * pc.q.toNat + k * pc.r.toNat / pc.t.toNat

/-- 41_pixel_clock.md R96: after an accepted pulse in cycle c with period P and target T, with no pulse event or reset
in the next m ≤ P_MAX cycles, a tick fires in cycle c + m exactly when m = floor(k·P / T) for some k, and for that k it
is tick k of the revolution: TC is k + 1 at the end of its cycle. -/
def Obligations.TicksFallAtFloorTimes : Prop :=
  ∀ (s c t : State) (m : Nat), StateInv s → step s = .next c → c.wires.accepted = true → m ≤ c.cfg.pMax →
    quietRun m c t →
    (t.wires.tick = true ↔ ∃ k, k * c.pt.period.toNat / c.pc.t.toNat = m) ∧
    ∀ k, k * c.pt.period.toNat / c.pc.t.toNat = m → t.pc.tc.toNat = k + 1

/-- 41_pixel_clock.md R97: from an accepted pulse to the cycle before the next pulse P' ≤ P_MAX cycles later,
ceil(P'·T / P) ticks have fired. -/
def Obligations.TickCountIsCeilingOfRatio : Prop :=
  ∀ (s c t : State) (m : Nat), StateInv s → step s = .next c → c.wires.accepted = true → m + 1 ≤ c.cfg.pMax →
    quietRun m c t →
    t.pc.tc.toNat =
      ((m + 1) * c.pc.t.toNat + c.pt.period.toNat - 1) / c.pt.period.toNat

/-- 40_pulse_timer.md R92: a revolution timed with ERR = 0 that is followed by a pulse at the same period emits exactly
N ticks; ERR stays 0 and the target stays N. -/
def Obligations.SteadyPeriodEmitsExactlyN : Prop :=
  ∀ s c t u : State, StateInv s → step s = .next c → c.wires.accepted = true → c.pt.err = 0 →
    quietRun (c.pt.period.toNat - 1) c t → step t = .next u → (nextInput t).rst = false → u.wires.pulse = true →
    u.wires.accepted = true ∧ u.pt.period = c.pt.period ∧ u.pt.revTicks.toNat = c.cfg.n ∧ u.pt.err = 0 ∧
      u.pc.t.toNat = c.cfg.n

/-- EV.TICK: the alignment check, then the frame start and its swap if standby is committed, then the advance; the
exact value of every element but the DAC registers and the draw count (41_pixel_clock.md R99 to R102, 42_frame_store.md
R107, R108). -/
def Obligations.TickAlignsSwapsAndAdvances : Prop :=
  ∀ s : State, s.cfg.Legal → s.pc.pIdx.toNat < s.cfg.n → ∃ t, exec .evTick s = .next t ∧
    t.pc.pIdx.toNat = (if tickIndex s + 1 = s.cfg.n then 0 else tickIndex s + 1) ∧
    t.pc.tc.toNat = min (s.pc.tc.toNat + 1) (2 ^ 32 - 1) ∧
    t = { s with
      pc := { s.pc with aligned := tickAligned s, pIdx := t.pc.pIdx, tc := t.pc.tc }
      fs := if tickSwaps s then
          { s.fs with
            active := otherSlot s.fs.active, ready := false, activeValid := true, swapCount := s.fs.swapCount + 1 }
        else s.fs
      hb := if tickSwaps s then { s.hb with swapped := true } else s.hb
      wires := { s.wires with
        frameStart := tickIsFrameStart s
        setmask := if tickSwaps s then s.wires.setmask ||| 0x100#32 else s.wires.setmask }
      dm := t.dm, draws := t.draws }

/-- 41_pixel_clock.md R103: P_IDX counts the ticks modulo N over any run of cycles without reset, idle entry or an
alignment at a non-zero index, with pulse events and host writes of PHASE_OFFSET allowed among them; a further such
tick of an aligned block is a frame start exactly when that count is 0 modulo N. So N ticks from index 0 hold one
wraparound. The last clauses are the same of EV.TICK alone: from index 0 the k-th of N leaves index k, and N leave 0. -/
def Obligations.IndexWrapsOnceInNTicks : Prop :=
  (∀ (s t : State) (k n : Nat), StateInv s → frameRun k n s t →
    t.pc.pIdx.toNat = (s.pc.pIdx.toNat + n) % s.cfg.n ∧
    ∀ u, step t = .next u → t.pc.aligned = true → u.wires.tick = true → realigns t u = false →
      (u.wires.frameStart = true ↔ (s.pc.pIdx.toNat + n) % s.cfg.n = 0)) ∧
  ∀ s : State, s.cfg.Legal → s.pc.pIdx = 0 →
    (∀ j, 0 < j → j < s.cfg.n → s.pc.phaseOffset.toNat ≠ s.pc.tc.toNat + j) →
    (∀ k, k < s.cfg.n → ∃ u, execAll (List.replicate k .evTick) s = .next u ∧ u.pc.pIdx.toNat = k) ∧
    ∃ t, execAll (List.replicate s.cfg.n .evTick) s = .next t ∧ t.pc.pIdx = 0

/-- 41_pixel_clock.md R98: in a cycle of the idle block with no pulse event no tick fires, the pixel clock holds but
for a PHASE_OFFSET the host writes, no swap happens, the ports stay blank and E counts. -/
def Obligations.IdleCycleHoldsThePixelClock : Prop :=
  ∀ s : State, StateInv s → (nextInput s).rst = false → s.pt.syncValid = false →
    (s.sync.syncQ = false ∨ s.sync.syncPrev = true) →
    ∃ t, step s = .next t ∧ t.wires.tick = false ∧ t.pc = { s.pc with phaseOffset := t.pc.phaseOffset } ∧
      t.dm = blankDac ∧ t.fs.active = s.fs.active ∧ t.fs.swapCount = s.fs.swapCount ∧
      t.pt = { s.pt with e := t.pt.e } ∧ t.pt.e.toNat = min (s.pt.e.toNat + 1) (2 ^ 32 - 1)

/-! ## The frame store (42_frame_store.md) and the DAC mapper (43_dac_mapper.md) -/

/-- An aligned tick of a valid active slot whose three bytes are written drives their values clamped to 63, and draws
nothing (42_frame_store.md R106, 43_dac_mapper.md R118, R119). -/
def Obligations.EmissionIsTheClampedStoredPixel : Prop :=
  ∀ (s : State) (r g b : Byte), s.cfg.Legal → s.pc.pIdx.toNat < s.cfg.n → tickAligned s = true →
    (s.fs.activeValid = true ∨ tickSwaps s = true) →
    slotByte s (tickSlot s) (3 * tickIndex s) = some r →
    slotByte s (tickSlot s) (3 * tickIndex s + 1) = some g →
    slotByte s (tickSlot s) (3 * tickIndex s + 2) = some b →
    ∃ t, exec .evTick s = .next t ∧ t.dm.dacR.toNat = min r.toNat 63 ∧ t.dm.dacG.toNat = min g.toNat 63 ∧
      t.dm.dacB.toNat = min b.toNat 63 ∧ t.draws = s.draws

/-- Each ⊥ byte of an emitted pixel is a fresh draw, clamped like any byte, and stays ⊥ (42_frame_store.md R106,
93_implementation_defined.md U1). How the draws are numbered is the model's (log entry 6); nothing is said of their
values. -/
def Obligations.UnwrittenByteIsAFreshDraw : Prop :=
  ∀ (s : State) (b0 b1 b2 : Option Byte) (n1 n2 n3 : Nat), s.cfg.Legal → s.pc.pIdx.toNat < s.cfg.n →
    tickAligned s = true → (s.fs.activeValid = true ∨ tickSwaps s = true) →
    slotByte s (tickSlot s) (3 * tickIndex s) = b0 →
    slotByte s (tickSlot s) (3 * tickIndex s + 1) = b1 →
    slotByte s (tickSlot s) (3 * tickIndex s + 2) = b2 →
    n1 = (if b0.isNone then s.draws + 1 else s.draws) →
    n2 = (if b1.isNone then n1 + 1 else n1) → n3 = (if b2.isNone then n2 + 1 else n2) →
    ∃ t, exec .evTick s = .next t ∧ t.store = s.store ∧ t.draws = n3 ∧
      t.dm.dacR.toNat = min (b0.getD (Config.freeByte s.draws)).toNat 63 ∧
      t.dm.dacG.toNat = min (b1.getD (Config.freeByte n1)).toNat 63 ∧
      t.dm.dacB.toNat = min (b2.getD (Config.freeByte n2)).toNat 63

/-- A tick that is unaligned, or comes before the first swap, writes blank and reads nothing (43_dac_mapper.md R118,
R120, 42_frame_store.md R109). -/
def Obligations.BlankUntilAlignedAndSwapped : Prop :=
  ∀ s : State, s.cfg.Legal → s.pc.pIdx.toNat < s.cfg.n →
    (tickAligned s = false ∨ (s.fs.activeValid = false ∧ tickSwaps s = false)) →
    ∃ t, exec .evTick s = .next t ∧ t.dm = blankDac ∧ t.draws = s.draws

/-- The emission never reads the standby slot: a tick is the same from any store that holds the same active slot
(42_frame_store.md R106, R113, 20_memory.md R49). -/
def Obligations.EmissionNeverReadsStandby : Prop :=
  ∀ (s t : State) (m : Memory), exec .evTick s = .next t →
    (∀ o, slotByte { s with store := m } t.fs.active o = slotByte s t.fs.active o) →
    exec .evTick { s with store := m } = .next { t with store := m }

/-- The roles change only at a frame start with READY = 1 as the cycle began, and then all of the swap happens in that
cycle (20_memory.md R55, R60, 42_frame_store.md R105, R107, R108, 70_reset_and_hazards.md R179). -/
def Obligations.SwapIsWholeAndOnlyAtCommittedFrameStart : Prop :=
  ∀ s t : State, step s = .next t → (nextInput s).rst = false →
    if t.wires.frameStart = true ∧ s.fs.ready = true then
      t.wires.tick = true ∧ t.fs.active = otherSlot s.fs.active ∧ t.fs.activeValid = true ∧
        t.fs.swapCount = s.fs.swapCount + 1 ∧ t.hb.swapped = true ∧
        (t.fs.ready = true → ∃ d, decode (nextInput s).word = .wrCmd d ∧ d.getLsbD 0 = true)
    else
      t.fs.active = s.fs.active ∧ t.fs.activeValid = s.fs.activeValid ∧ t.fs.swapCount = s.fs.swapCount

/-- 42_frame_store.md R110: WR.LOADPTR stores WDATA[17:0] and nothing else. -/
def Obligations.WrLoadptrSetsThePointer : Prop :=
  ∀ (s : State) (d : Word), ∃ p : BitVec 18, p.toNat = d.toNat % 2 ^ 18 ∧
    exec (.wrLoadptr d) s = .next { s with fs := { s.fs with loadPtr := p } }

/-- 42_frame_store.md R111: in range, WR.LOADDATA writes one byte of the standby slot, clears READY and advances
LOAD_PTR, and no other cell changes; past the slot's end it only sets F_LOADOVF. -/
def Obligations.WrLoaddataFillsStandbyOrFaults : Prop :=
  ∀ (s : State) (d : Word), s.cfg.Legal →
    (s.fs.loadPtr.toNat < 3 * s.cfg.n → ∃ t v, exec (.wrLoaddata d) s = .next t ∧
      slotByte t (otherSlot s.fs.active) s.fs.loadPtr.toNat = some v ∧ v.toNat = d.toNat % 256 ∧
      (∀ slot o, slot ≠ otherSlot s.fs.active ∨ o ≠ s.fs.loadPtr.toNat → slotByte t slot o = slotByte s slot o) ∧
      t.fs.loadPtr.toNat = s.fs.loadPtr.toNat + 1 ∧
      t = { s with store := t.store, fs := { s.fs with ready := false, loadPtr := t.fs.loadPtr } }) ∧
    (3 * s.cfg.n ≤ s.fs.loadPtr.toNat → exec (.wrLoaddata d) s =
      .next { s with
        hb := { s.hb with fLoadOvf := true }
        wires := { s.wires with setmask := s.wires.setmask ||| 0x1000#32 } })

/-- 42_frame_store.md R112: WR.CMD sets READY where WDATA[0] is 1, and does nothing where it is 0. -/
def Obligations.WrCmdCommits : Prop :=
  ∀ (s : State) (d : Word),
    (d.getLsbD 0 = true → exec (.wrCmd d) s = .next { s with fs := { s.fs with ready := true } }) ∧
    (d.getLsbD 0 = false → exec (.wrCmd d) s = .next s)

/-- No host transaction changes a byte of the active slot or the roles (20_memory.md R49, R58, 42_frame_store.md
R113). -/
def Obligations.TransactionsKeepTheActiveSlot : Prop :=
  ∀ (i : Instr) (s t : State), i.isTransaction = true → exec i s = .next t →
    t.fs.active = s.fs.active ∧ ∀ o, slotByte t s.fs.active o = slotByte s s.fs.active o

/-- The store changes only in a cycle without reset that presents WR.LOADDATA, and then READY is 0 at its end, only
the slot that is standby at its end changes (42_frame_store.md R111, R113, R117, 70_reset_and_hazards.md R173). -/
def Obligations.StoreChangesOnlyByLoaddata : Prop :=
  ∀ s t : State, step s = .next t → t.store = s.store ∨
    ((nextInput s).rst = false ∧ (∃ d, decode (nextInput s).word = .wrLoaddata d) ∧ t.fs.ready = false ∧
      ∀ o, slotByte t t.fs.active o = slotByte s t.fs.active o)

/-- 42_frame_store.md R115: a host that issues LOADFRAME in consecutive cycles, whatever `sync_in` does meanwhile, ends
with the frame in standby, committed, and the roles unchanged; and an aligned tick emitting pixel i of a valid active
slot that holds the frame drives its bytes 3i, 3i + 1 and 3i + 2, clamped. -/
def Obligations.LoadedFrameRoundTrips : Prop :=
  ∀ (s : State) (bytes : List Word) (levels : List Bool) (rest : List CycleInput), StateInv s → s.fs.ready = false →
    bytes.length = 3 * s.cfg.n → levels.length = 3 * s.cfg.n + 2 → s.inputs = fillInputs levels bytes ++ rest →
    ∃ t, runCycles (3 * s.cfg.n + 2) s = .next t ∧ t.fs.ready = true ∧ t.fs.active = s.fs.active ∧
      (∀ k d, bytes[k]? = some d →
        ∃ v, slotByte t (otherSlot s.fs.active) k = some v ∧ v.toNat = d.toNat % 256) ∧
      ∀ (v : State) (i : Nat) (r g b : Word), v.cfg = s.cfg → v.store = t.store →
        v.pc.pIdx.toNat < v.cfg.n → tickAligned v = true → (v.fs.activeValid = true ∨ tickSwaps v = true) →
        tickSlot v = otherSlot s.fs.active → tickIndex v = i →
        bytes[3 * i]? = some r → bytes[3 * i + 1]? = some g → bytes[3 * i + 2]? = some b →
        ∃ x, exec .evTick v = .next x ∧ x.dm.dacR.toNat = min (r.toNat % 256) 63 ∧
          x.dm.dacG.toNat = min (g.toNat % 256) 63 ∧ x.dm.dacB.toNat = min (b.toNat % 256) 63

/-- The DAC registers hold their values in every cycle without reset, tick or idle entry (10_state.md R26,
43_dac_mapper.md R118). -/
def Obligations.DacHoldsBetweenTicks : Prop :=
  ∀ s t : State, step s = .next t → (nextInput s).rst = false → t.wires.tick = false → t.wires.enterIdle = false →
    t.dm = s.dm

/-! ## The host bus (44_host_bus.md) -/

/-- RD.CTRL, RD.STATUS and RD.LOADPTR: every bit of the word read, and nothing else changed (44_host_bus.md R128,
R130, R132, 10_state.md R33 to R35). -/
def Obligations.ControlReadsBitByBit : Prop :=
  ∀ s : State, ∃ c f p : Word,
    exec .rdCtrl s = .next { s with out := { s.out with busRdata := c } } ∧
    exec .rdStatus s = .next { s with out := { s.out with busRdata := f } } ∧
    exec .rdLoadptr s = .next { s with out := { s.out with busRdata := p } } ∧
    c.toNat = s.pc.phaseOffset.toNat + s.hb.swapIe.toNat * 2 ^ 16 + s.hb.faultIe.toNat * 2 ^ 17 ∧
    f.toNat = s.pt.syncValid.toNat + s.fs.ready.toNat * 2 + (if s.fs.active = .slot1 then 4 else 0) +
      s.fs.activeValid.toNat * 8 + s.pc.aligned.toNat * 16 + s.pt.haveLast.toNat * 32 + s.hb.swapped.toNat * 0x100 +
      s.hb.fShort.toNat * 0x200 + s.hb.fLong.toNat * 0x400 + s.hb.fTimeout.toNat * 0x800 +
      s.hb.fLoadOvf.toNat * 0x1000 ∧
    p.toNat = s.fs.loadPtr.toNat

/-- The read-only registers: RD.PERIOD, RD.PIXQ, RD.PIXR, RD.TARGET, RD.PIXERR, RD.FPS, RD.POS, RD.SWAPCNT and
RD.REVTICKS put their element on the bus and change nothing else (44_host_bus.md R134 to R142). -/
def Obligations.DiagnosticReadsReturnTheirElement : Prop :=
  ∀ s : State,
    exec .rdPeriod s = .next { s with out := { s.out with busRdata := s.pt.period } } ∧
    exec .rdPixq s = .next { s with out := { s.out with busRdata := s.pc.q } } ∧
    (∃ r : Word, r.toNat = s.pc.r.toNat ∧ exec .rdPixr s = .next { s with out := { s.out with busRdata := r } }) ∧
    (∃ t : Word, t.toNat = s.pc.t.toNat ∧ exec .rdTarget s = .next { s with out := { s.out with busRdata := t } }) ∧
    exec .rdPixerr s = .next { s with out := { s.out with busRdata := s.pt.err } } ∧
    exec .rdFps s = .next { s with out := { s.out with busRdata := s.pt.fps } } ∧
    (∃ p : Word, p.toNat = min s.pc.tc.toNat 65535 * 2 ^ 16 + s.pc.pIdx.toNat ∧
      exec .rdPos s = .next { s with out := { s.out with busRdata := p } }) ∧
    exec .rdSwapcnt s = .next { s with out := { s.out with busRdata := s.fs.swapCount } } ∧
    exec .rdRevticks s = .next { s with out := { s.out with busRdata := s.pt.revTicks } }

/-- 44_host_bus.md R133 and R144: a read of a write-only or reserved address returns 0 and has no other effect; its
words are 0x23 … and 0x24 …, 0x2E … and 0x2F …. -/
def Obligations.WriteOnlyAndReservedReadZero : Prop :=
  (∀ (s : State) (i : Instr), i ∈ [Instr.rdWoLoaddata, .rdWoCmd, .rdRsv14, .rdRsv15] →
    exec i s = .next { s with out := { s.out with busRdata := 0 } }) ∧
  encode .rdWoLoaddata = some 0x2300000000#38 ∧ encode .rdWoCmd = some 0x2400000000#38 ∧
  encode .rdRsv14 = some 0x2E00000000#38 ∧ encode .rdRsv15 = some 0x2F00000000#38

/-- WR.CTRL replaces PHASE_OFFSET, SWAP_IE and FAULT_IE together and writes nothing else (44_host_bus.md R129,
30_encoding.md R69). -/
def Obligations.WrCtrlReplacesThreeFields : Prop :=
  ∀ (s : State) (d : Word), ∃ k : BitVec 16, k.toNat = d.toNat % 2 ^ 16 ∧
    exec (.wrCtrl d) s =
      .next { s with
        pc := { s.pc with phaseOffset := k }
        hb := { s.hb with swapIe := d.getLsbD 16, faultIe := d.getLsbD 17 } }

/-- WR.STATUS clears exactly the sticky flags whose bit is written 1 and was not set earlier in the same cycle, and
writes nothing else (44_host_bus.md R131, 60_exceptions.md R153). -/
def Obligations.WrStatusClearsSelectedFlags : Prop :=
  ∀ (s : State) (d : Word), exec (.wrStatus d) s =
    .next { s with
      hb := { s.hb with
        swapped := s.hb.swapped && !(d.getLsbD 8 && !s.wires.setmask.getLsbD 8)
        fShort := s.hb.fShort && !(d.getLsbD 9 && !s.wires.setmask.getLsbD 9)
        fLong := s.hb.fLong && !(d.getLsbD 10 && !s.wires.setmask.getLsbD 10)
        fTimeout := s.hb.fTimeout && !(d.getLsbD 11 && !s.wires.setmask.getLsbD 11)
        fLoadOvf := s.hb.fLoadOvf && !(d.getLsbD 12 && !s.wires.setmask.getLsbD 12) } }

/-- 44_host_bus.md R143 and R145: a write to a read-only or reserved register changes nothing, whatever WDATA; its
words are those with SEL = 1, WE = 1 and ADDR 0x5 … 0xF. -/
def Obligations.IgnoredWritesChangeNothing : Prop :=
  (∀ (s : State) (d : Word) (i : Instr),
    i ∈ [Instr.wrRoPeriod d, .wrRoPixq d, .wrRoPixr d, .wrRoTarget d, .wrRoPixerr d, .wrRoFps d, .wrRoPos d,
      .wrRoSwapcnt d, .wrRoRevticks d, .wrRsv14 d, .wrRsv15 d] →
    exec i s = .next s) ∧
  ∀ (s : State) (w : TxWord), w.getLsbD 37 = true → w.getLsbD 36 = true → 5 ≤ (w.extractLsb' 32 4).toNat →
    exec (decode w) s = .next s

/-- The outputs of a cycle are those of its start state: the three DAC registers, the irq formula, and the register
read (43_dac_mapper.md R121, 44_host_bus.md R125, 60_exceptions.md R154, 70_reset_and_hazards.md R172). -/
def Obligations.OutputsAreOfTheStartState : Prop :=
  ∀ s t : State, step s = .next t →
    t.out = { dacR := s.dm.dacR, dacG := s.dm.dacG, dacB := s.dm.dacB
              irq := (s.hb.swapped && s.hb.swapIe) ||
                ((s.hb.fShort || s.hb.fLong || s.hb.fTimeout || s.hb.fLoadOvf) && s.hb.faultIe)
              busRdata := if (nextInput s).word.sel && !(nextInput s).word.we
                then readRegister (nextInput s).word.addr s else 0 }

/-! ## Faults and flags (60_exceptions.md) -/

/-- 60_exceptions.md R153: after a cycle a sticky flag is 1 exactly if the block set it in the cycle, or it was 1 and
the host did not write 1 to its STATUS bit; reset clears it. -/
def Obligations.StickyFlagsSetWins : Prop :=
  ∀ (s t : State) (c : Cause), step s = .next t →
    stickyFlag c t.hb =
      (!(nextInput s).rst &&
        (t.wires.setmask.getLsbD (causeBit c) ||
          (stickyFlag c s.hb &&
            !((nextInput s).word.sel && (nextInput s).word.we && (nextInput s).word.addr == 1 &&
              (nextInput s).word.getLsbD (causeBit c)))))

/-- The events of one cycle (60_exceptions.md R147, R149, R156): at most one of an accepted pulse, SHORT, LONG and
TIMEOUT; an idle entry exactly with a sensor fault, and then no tick and no swap, the block idle, unaligned and blank; an
accepted pulse with its tick; SWAPPED only at a frame start. -/
def Obligations.CycleEventsExcludeEachOther : Prop :=
  ∀ (s t : State) (swapSet short long timeout : Bool), step s = .next t →
    swapSet = t.wires.setmask.getLsbD 8 → short = t.wires.setmask.getLsbD 9 → long = t.wires.setmask.getLsbD 10 →
    timeout = t.wires.setmask.getLsbD 11 →
    short.toNat + long.toNat + timeout.toNat + t.wires.accepted.toNat ≤ 1 ∧
    t.wires.enterIdle = (short || long || timeout) ∧
    (short = true ∨ long = true ∨ t.wires.accepted = true → t.wires.pulse = true) ∧
    (timeout = true → t.wires.pulse = false) ∧
    (t.wires.accepted = true → t.wires.tick = true) ∧
    (t.wires.enterIdle = true → t.wires.tick = false ∧ swapSet = false ∧ t.pt.syncValid = false ∧
      t.pc.aligned = false ∧ t.dm = blankDac) ∧
    (swapSet = true → t.wires.frameStart = true ∧ t.wires.tick = true)

/-- HAVE_LAST and ACTIVE_VALID are cleared only by reset (40_pulse_timer.md R83, 42_frame_store.md R109). -/
def Obligations.ArmedAndValidFallOnlyByReset : Prop :=
  ∀ s t : State, step s = .next t → (nextInput s).rst = false →
    (s.pt.haveLast = true → t.pt.haveLast = true) ∧ (s.fs.activeValid = true → t.fs.activeValid = true)

/-! ## Invariants and the whole machine -/

/-- Every step keeps the invariant, from every state that meets it. -/
def Obligations.StepKeepsTheInvariant : Prop :=
  ∀ s t : State, StateInv s → step s = .next t → StateInv t

/-- 40_pulse_timer.md R77: from every state that meets the invariant, and under every input, the step gives a next
state: no fault and no refusal. -/
def Obligations.StepNeverStops : Prop :=
  ∀ s : State, StateInv s → ∃ t, step s = .next t

/-- 10_state.md R30: its facts hold in every state reachable from reset, in every run of a legal configuration from
power-up whose first cycle is a reset cycle. -/
def Obligations.ReachableStatesMeetTheFacts : Prop :=
  ∀ (junk t : State) (c : Config) (y : Bool) (w : TxWord) (ins : List CycleInput) (k : Nat), c.Legal →
    runCycles (k + 1)
      { State.powerUp junk with cfg := c, inputs := { rst := true, syncIn := y, word := w } :: ins } = .next t →
    StateFacts t

/-- The store stays in canonical form with existing cells only, through every operation (20_memory.md R48). -/
def Obligations.StoreStaysCanonical : Prop :=
  ∀ (i : Instr) (s t : State), Memory.wf s.store = true → Memory.within s.cfg s.store = true →
    exec i s = .next t → Memory.wf t.store = true ∧ Memory.within t.cfg t.store = true

/-- The build parameters are fixed: no step changes them (00_scope.md R9, 92_eei_decisions.md D42). -/
def Obligations.ParametersNeverChange : Prop :=
  ∀ s t : State, step s = .next t → t.cfg = s.cfg

/-- The recorded signals and outputs of the last cycle influence nothing: they are no storage of the block (00_scope.md
R8, 41_pixel_clock.md R101; the records are the model's, log entries 7 and 8). -/
def Obligations.CycleRecordsInfluenceNothing : Prop :=
  ∀ (s : State) (w : CycleWires) (o : Outputs), step { s with wires := w, out := o } = step s
end

