-- ==== Sys2Proof/Laws/State.lean ====
section
/-! SUPPORT. For every update of the state one lemma per field: the field's new value where the update writes it,
and its old value elsewhere. All are true by rfl, so no later proof unfolds a record update. -/

namespace Sys2Proof.Machine

/-! The reset. -/

@[simp] theorem resetBlock_cfg (s : State) : (resetBlock s).cfg = s.cfg := rfl
@[simp] theorem resetBlock_launched (s : State) : (resetBlock s).launched = true := rfl
@[simp] theorem resetBlock_sync (s : State) : (resetBlock s).sync = { syncMeta := true, syncQ := true, syncPrev := true } := rfl
@[simp] theorem resetBlock_pt (s : State) : (resetBlock s).pt = { e := 0, haveLast := false, syncValid := false, period := 0, err := 0, fps := 0, revTicks := 0 } := rfl
@[simp] theorem resetBlock_pc (s : State) : (resetBlock s).pc = { t := BitVec.ofNat 17 s.cfg.n, q := 0, r := 0, acc := 0, ctr := 0, tc := 0, pIdx := 0, aligned := false, phaseOffset := BitVec.ofNat 16 s.cfg.phaseOffsetRst } := rfl
@[simp] theorem resetBlock_fs (s : State) : (resetBlock s).fs = { active := .slot0, ready := false, activeValid := false, swapCount := 0, loadPtr := 0 } := rfl
@[simp] theorem resetBlock_store (s : State) : (resetBlock s).store = s.store := rfl
@[simp] theorem resetBlock_dm (s : State) : (resetBlock s).dm = { dacR := 0, dacG := 0, dacB := 0 } := rfl
@[simp] theorem resetBlock_hb (s : State) : (resetBlock s).hb = { swapIe := false, faultIe := false, swapped := false, fShort := false, fLong := false, fTimeout := false, fLoadOvf := false } := rfl
@[simp] theorem resetBlock_wires (s : State) : (resetBlock s).wires = s.wires := rfl
@[simp] theorem resetBlock_out (s : State) : (resetBlock s).out = s.out := rfl
@[simp] theorem resetBlock_inputs (s : State) : (resetBlock s).inputs = s.inputs := rfl
@[simp] theorem resetBlock_cycle (s : State) : (resetBlock s).cycle = s.cycle := rfl
@[simp] theorem resetBlock_draws (s : State) : (resetBlock s).draws = s.draws := rfl

/-! The synchroniser. -/

@[simp] theorem synchronise_cfg (b : Bool) (s : State) : (synchronise b s).cfg = s.cfg := rfl
@[simp] theorem synchronise_launched (b : Bool) (s : State) : (synchronise b s).launched = s.launched := rfl
@[simp] theorem synchronise_sync (b : Bool) (s : State) : (synchronise b s).sync = { syncMeta := b, syncQ := s.sync.syncMeta, syncPrev := s.sync.syncQ } := rfl
@[simp] theorem synchronise_pt (b : Bool) (s : State) : (synchronise b s).pt = s.pt := rfl
@[simp] theorem synchronise_pc (b : Bool) (s : State) : (synchronise b s).pc = s.pc := rfl
@[simp] theorem synchronise_fs (b : Bool) (s : State) : (synchronise b s).fs = s.fs := rfl
@[simp] theorem synchronise_store (b : Bool) (s : State) : (synchronise b s).store = s.store := rfl
@[simp] theorem synchronise_dm (b : Bool) (s : State) : (synchronise b s).dm = s.dm := rfl
@[simp] theorem synchronise_hb (b : Bool) (s : State) : (synchronise b s).hb = s.hb := rfl
@[simp] theorem synchronise_wires (b : Bool) (s : State) : (synchronise b s).wires = { s.wires with pulse := s.sync.syncQ && !s.sync.syncPrev } := rfl
@[simp] theorem synchronise_out (b : Bool) (s : State) : (synchronise b s).out = s.out := rfl
@[simp] theorem synchronise_inputs (b : Bool) (s : State) : (synchronise b s).inputs = s.inputs := rfl
@[simp] theorem synchronise_cycle (b : Bool) (s : State) : (synchronise b s).cycle = s.cycle := rfl
@[simp] theorem synchronise_draws (b : Bool) (s : State) : (synchronise b s).draws = s.draws := rfl

/-! The shared part of a pulse event. -/

@[simp] theorem measure_cfg (s : State) : (measure s).cfg = s.cfg := rfl
@[simp] theorem measure_launched (s : State) : (measure s).launched = s.launched := rfl
@[simp] theorem measure_sync (s : State) : (measure s).sync = s.sync := rfl
@[simp] theorem measure_pt (s : State) : (measure s).pt = { s.pt with e := 0, revTicks := s.pc.tc } := rfl
@[simp] theorem measure_pc (s : State) : (measure s).pc = { s.pc with tc := 0 } := rfl
@[simp] theorem measure_fs (s : State) : (measure s).fs = s.fs := rfl
@[simp] theorem measure_store (s : State) : (measure s).store = s.store := rfl
@[simp] theorem measure_dm (s : State) : (measure s).dm = s.dm := rfl
@[simp] theorem measure_hb (s : State) : (measure s).hb = s.hb := rfl
@[simp] theorem measure_wires (s : State) : (measure s).wires = s.wires := rfl
@[simp] theorem measure_out (s : State) : (measure s).out = s.out := rfl
@[simp] theorem measure_inputs (s : State) : (measure s).inputs = s.inputs := rfl
@[simp] theorem measure_cycle (s : State) : (measure s).cycle = s.cycle := rfl
@[simp] theorem measure_draws (s : State) : (measure s).draws = s.draws := rfl

/-! ERRUPDATE. -/

@[simp] theorem errUpdate_cfg (live : Bool) (tc : Word) (s : State) : (errUpdate live tc s).cfg = s.cfg := rfl
@[simp] theorem errUpdate_launched (live : Bool) (tc : Word) (s : State) : (errUpdate live tc s).launched = s.launched := rfl
@[simp] theorem errUpdate_sync (live : Bool) (tc : Word) (s : State) : (errUpdate live tc s).sync = s.sync := rfl
@[simp] theorem errUpdate_pt (live : Bool) (tc : Word) (s : State) : (errUpdate live tc s).pt = { s.pt with err := if live then satS32 (s.pt.err.toInt + s.cfg.n - tc.toNat) else 0 } := rfl
@[simp] theorem errUpdate_pc (live : Bool) (tc : Word) (s : State) : (errUpdate live tc s).pc = s.pc := rfl
@[simp] theorem errUpdate_fs (live : Bool) (tc : Word) (s : State) : (errUpdate live tc s).fs = s.fs := rfl
@[simp] theorem errUpdate_store (live : Bool) (tc : Word) (s : State) : (errUpdate live tc s).store = s.store := rfl
@[simp] theorem errUpdate_dm (live : Bool) (tc : Word) (s : State) : (errUpdate live tc s).dm = s.dm := rfl
@[simp] theorem errUpdate_hb (live : Bool) (tc : Word) (s : State) : (errUpdate live tc s).hb = s.hb := rfl
@[simp] theorem errUpdate_wires (live : Bool) (tc : Word) (s : State) : (errUpdate live tc s).wires = s.wires := rfl
@[simp] theorem errUpdate_out (live : Bool) (tc : Word) (s : State) : (errUpdate live tc s).out = s.out := rfl
@[simp] theorem errUpdate_inputs (live : Bool) (tc : Word) (s : State) : (errUpdate live tc s).inputs = s.inputs := rfl
@[simp] theorem errUpdate_cycle (live : Bool) (tc : Word) (s : State) : (errUpdate live tc s).cycle = s.cycle := rfl
@[simp] theorem errUpdate_draws (live : Bool) (tc : Word) (s : State) : (errUpdate live tc s).draws = s.draws := rfl

/-! SETTARGET. -/

@[simp] theorem setTarget_cfg (s : State) : (setTarget s).cfg = s.cfg := rfl
@[simp] theorem setTarget_launched (s : State) : (setTarget s).launched = s.launched := rfl
@[simp] theorem setTarget_sync (s : State) : (setTarget s).sync = s.sync := rfl
@[simp] theorem setTarget_pt (s : State) : (setTarget s).pt = s.pt := rfl
@[simp] theorem setTarget_pc (s : State) : (setTarget s).pc = { s.pc with t := targetFor s.cfg s.pt.err } := rfl
@[simp] theorem setTarget_fs (s : State) : (setTarget s).fs = s.fs := rfl
@[simp] theorem setTarget_store (s : State) : (setTarget s).store = s.store := rfl
@[simp] theorem setTarget_dm (s : State) : (setTarget s).dm = s.dm := rfl
@[simp] theorem setTarget_hb (s : State) : (setTarget s).hb = s.hb := rfl
@[simp] theorem setTarget_wires (s : State) : (setTarget s).wires = s.wires := rfl
@[simp] theorem setTarget_out (s : State) : (setTarget s).out = s.out := rfl
@[simp] theorem setTarget_inputs (s : State) : (setTarget s).inputs = s.inputs := rfl
@[simp] theorem setTarget_cycle (s : State) : (setTarget s).cycle = s.cycle := rfl
@[simp] theorem setTarget_draws (s : State) : (setTarget s).draws = s.draws := rfl

/-! DIVIDE. -/

@[simp] theorem divide_cfg (p : Word) (s : State) : (divide p s).cfg = s.cfg := rfl
@[simp] theorem divide_launched (p : Word) (s : State) : (divide p s).launched = s.launched := rfl
@[simp] theorem divide_sync (p : Word) (s : State) : (divide p s).sync = s.sync := rfl
@[simp] theorem divide_pt (p : Word) (s : State) : (divide p s).pt = s.pt := rfl
@[simp] theorem divide_pc (p : Word) (s : State) : (divide p s).pc = { s.pc with q := BitVec.ofNat 32 (p.toNat / s.pc.t.toNat), r := BitVec.ofNat 17 (p.toNat % s.pc.t.toNat), acc := 0 } := rfl
@[simp] theorem divide_fs (p : Word) (s : State) : (divide p s).fs = s.fs := rfl
@[simp] theorem divide_store (p : Word) (s : State) : (divide p s).store = s.store := rfl
@[simp] theorem divide_dm (p : Word) (s : State) : (divide p s).dm = s.dm := rfl
@[simp] theorem divide_hb (p : Word) (s : State) : (divide p s).hb = s.hb := rfl
@[simp] theorem divide_wires (p : Word) (s : State) : (divide p s).wires = s.wires := rfl
@[simp] theorem divide_out (p : Word) (s : State) : (divide p s).out = s.out := rfl
@[simp] theorem divide_inputs (p : Word) (s : State) : (divide p s).inputs = s.inputs := rfl
@[simp] theorem divide_cycle (p : Word) (s : State) : (divide p s).cycle = s.cycle := rfl
@[simp] theorem divide_draws (p : Word) (s : State) : (divide p s).draws = s.draws := rfl

/-! FPSUPDATE. -/

@[simp] theorem fpsUpdate_cfg (p : Word) (s : State) : (fpsUpdate p s).cfg = s.cfg := rfl
@[simp] theorem fpsUpdate_launched (p : Word) (s : State) : (fpsUpdate p s).launched = s.launched := rfl
@[simp] theorem fpsUpdate_sync (p : Word) (s : State) : (fpsUpdate p s).sync = s.sync := rfl
@[simp] theorem fpsUpdate_pt (p : Word) (s : State) : (fpsUpdate p s).pt = { s.pt with fps := smoothFps s.cfg s.pt.fps p } := rfl
@[simp] theorem fpsUpdate_pc (p : Word) (s : State) : (fpsUpdate p s).pc = s.pc := rfl
@[simp] theorem fpsUpdate_fs (p : Word) (s : State) : (fpsUpdate p s).fs = s.fs := rfl
@[simp] theorem fpsUpdate_store (p : Word) (s : State) : (fpsUpdate p s).store = s.store := rfl
@[simp] theorem fpsUpdate_dm (p : Word) (s : State) : (fpsUpdate p s).dm = s.dm := rfl
@[simp] theorem fpsUpdate_hb (p : Word) (s : State) : (fpsUpdate p s).hb = s.hb := rfl
@[simp] theorem fpsUpdate_wires (p : Word) (s : State) : (fpsUpdate p s).wires = s.wires := rfl
@[simp] theorem fpsUpdate_out (p : Word) (s : State) : (fpsUpdate p s).out = s.out := rfl
@[simp] theorem fpsUpdate_inputs (p : Word) (s : State) : (fpsUpdate p s).inputs = s.inputs := rfl
@[simp] theorem fpsUpdate_cycle (p : Word) (s : State) : (fpsUpdate p s).cycle = s.cycle := rfl
@[simp] theorem fpsUpdate_draws (p : Word) (s : State) : (fpsUpdate p s).draws = s.draws := rfl

/-! The end of PULSE.ACCEPT. -/

@[simp] theorem publish_cfg (p : Word) (s : State) : (publish p s).cfg = s.cfg := rfl
@[simp] theorem publish_launched (p : Word) (s : State) : (publish p s).launched = s.launched := rfl
@[simp] theorem publish_sync (p : Word) (s : State) : (publish p s).sync = s.sync := rfl
@[simp] theorem publish_pt (p : Word) (s : State) : (publish p s).pt = { s.pt with period := p, syncValid := true } := rfl
@[simp] theorem publish_pc (p : Word) (s : State) : (publish p s).pc = s.pc := rfl
@[simp] theorem publish_fs (p : Word) (s : State) : (publish p s).fs = s.fs := rfl
@[simp] theorem publish_store (p : Word) (s : State) : (publish p s).store = s.store := rfl
@[simp] theorem publish_dm (p : Word) (s : State) : (publish p s).dm = s.dm := rfl
@[simp] theorem publish_hb (p : Word) (s : State) : (publish p s).hb = s.hb := rfl
@[simp] theorem publish_wires (p : Word) (s : State) : (publish p s).wires = { s.wires with accepted := true } := rfl
@[simp] theorem publish_out (p : Word) (s : State) : (publish p s).out = s.out := rfl
@[simp] theorem publish_inputs (p : Word) (s : State) : (publish p s).inputs = s.inputs := rfl
@[simp] theorem publish_cycle (p : Word) (s : State) : (publish p s).cycle = s.cycle := rfl
@[simp] theorem publish_draws (p : Word) (s : State) : (publish p s).draws = s.draws := rfl

/-! The elapsed count. -/

@[simp] theorem countElapsed_cfg (s : State) : (countElapsed s).cfg = s.cfg := rfl
@[simp] theorem countElapsed_launched (s : State) : (countElapsed s).launched = s.launched := rfl
@[simp] theorem countElapsed_sync (s : State) : (countElapsed s).sync = s.sync := rfl
@[simp] theorem countElapsed_pt (s : State) : (countElapsed s).pt = { s.pt with e := elapsedNext s } := rfl
@[simp] theorem countElapsed_pc (s : State) : (countElapsed s).pc = s.pc := rfl
@[simp] theorem countElapsed_fs (s : State) : (countElapsed s).fs = s.fs := rfl
@[simp] theorem countElapsed_store (s : State) : (countElapsed s).store = s.store := rfl
@[simp] theorem countElapsed_dm (s : State) : (countElapsed s).dm = s.dm := rfl
@[simp] theorem countElapsed_hb (s : State) : (countElapsed s).hb = s.hb := rfl
@[simp] theorem countElapsed_wires (s : State) : (countElapsed s).wires = s.wires := rfl
@[simp] theorem countElapsed_out (s : State) : (countElapsed s).out = s.out := rfl
@[simp] theorem countElapsed_inputs (s : State) : (countElapsed s).inputs = s.inputs := rfl
@[simp] theorem countElapsed_cycle (s : State) : (countElapsed s).cycle = s.cycle := rfl
@[simp] theorem countElapsed_draws (s : State) : (countElapsed s).draws = s.draws := rfl

/-! Raising a cause. -/

@[simp] theorem raise_cfg (c : Cause) (s : State) : (raise c s).cfg = s.cfg := rfl
@[simp] theorem raise_launched (c : Cause) (s : State) : (raise c s).launched = s.launched := rfl
@[simp] theorem raise_sync (c : Cause) (s : State) : (raise c s).sync = s.sync := rfl
@[simp] theorem raise_pt (c : Cause) (s : State) : (raise c s).pt = s.pt := rfl
@[simp] theorem raise_pc (c : Cause) (s : State) : (raise c s).pc = s.pc := rfl
@[simp] theorem raise_fs (c : Cause) (s : State) : (raise c s).fs = s.fs := rfl
@[simp] theorem raise_store (c : Cause) (s : State) : (raise c s).store = s.store := rfl
@[simp] theorem raise_dm (c : Cause) (s : State) : (raise c s).dm = s.dm := rfl
@[simp] theorem raise_hb (c : Cause) (s : State) : (raise c s).hb = setSticky c s.hb := rfl
@[simp] theorem raise_wires (c : Cause) (s : State) : (raise c s).wires = { s.wires with setmask := s.wires.setmask ||| causeMask c } := rfl
@[simp] theorem raise_out (c : Cause) (s : State) : (raise c s).out = s.out := rfl
@[simp] theorem raise_inputs (c : Cause) (s : State) : (raise c s).inputs = s.inputs := rfl
@[simp] theorem raise_cycle (c : Cause) (s : State) : (raise c s).cycle = s.cycle := rfl
@[simp] theorem raise_draws (c : Cause) (s : State) : (raise c s).draws = s.draws := rfl

/-! The idle entry. -/

@[simp] theorem enterIdle_cfg (s : State) : (enterIdle s).cfg = s.cfg := rfl
@[simp] theorem enterIdle_launched (s : State) : (enterIdle s).launched = s.launched := rfl
@[simp] theorem enterIdle_sync (s : State) : (enterIdle s).sync = s.sync := rfl
@[simp] theorem enterIdle_pt (s : State) : (enterIdle s).pt = { s.pt with syncValid := false } := rfl
@[simp] theorem enterIdle_pc (s : State) : (enterIdle s).pc = { s.pc with aligned := false } := rfl
@[simp] theorem enterIdle_fs (s : State) : (enterIdle s).fs = s.fs := rfl
@[simp] theorem enterIdle_store (s : State) : (enterIdle s).store = s.store := rfl
@[simp] theorem enterIdle_dm (s : State) : (enterIdle s).dm = { dacR := 0, dacG := 0, dacB := 0 } := rfl
@[simp] theorem enterIdle_hb (s : State) : (enterIdle s).hb = s.hb := rfl
@[simp] theorem enterIdle_wires (s : State) : (enterIdle s).wires = { s.wires with enterIdle := true } := rfl
@[simp] theorem enterIdle_out (s : State) : (enterIdle s).out = s.out := rfl
@[simp] theorem enterIdle_inputs (s : State) : (enterIdle s).inputs = s.inputs := rfl
@[simp] theorem enterIdle_cycle (s : State) : (enterIdle s).cycle = s.cycle := rfl
@[simp] theorem enterIdle_draws (s : State) : (enterIdle s).draws = s.draws := rfl

/-! The acknowledgement. -/

@[simp] theorem acknowledge_cfg (d : Word) (s : State) : (acknowledge d s).cfg = s.cfg := rfl
@[simp] theorem acknowledge_launched (d : Word) (s : State) : (acknowledge d s).launched = s.launched := rfl
@[simp] theorem acknowledge_sync (d : Word) (s : State) : (acknowledge d s).sync = s.sync := rfl
@[simp] theorem acknowledge_pt (d : Word) (s : State) : (acknowledge d s).pt = s.pt := rfl
@[simp] theorem acknowledge_pc (d : Word) (s : State) : (acknowledge d s).pc = s.pc := rfl
@[simp] theorem acknowledge_fs (d : Word) (s : State) : (acknowledge d s).fs = s.fs := rfl
@[simp] theorem acknowledge_store (d : Word) (s : State) : (acknowledge d s).store = s.store := rfl
@[simp] theorem acknowledge_dm (d : Word) (s : State) : (acknowledge d s).dm = s.dm := rfl
@[simp] theorem acknowledge_hb (d : Word) (s : State) : (acknowledge d s).hb = clearSticky (clearMask d s.wires.setmask) s.hb := rfl
@[simp] theorem acknowledge_wires (d : Word) (s : State) : (acknowledge d s).wires = s.wires := rfl
@[simp] theorem acknowledge_out (d : Word) (s : State) : (acknowledge d s).out = s.out := rfl
@[simp] theorem acknowledge_inputs (d : Word) (s : State) : (acknowledge d s).inputs = s.inputs := rfl
@[simp] theorem acknowledge_cycle (d : Word) (s : State) : (acknowledge d s).cycle = s.cycle := rfl
@[simp] theorem acknowledge_draws (d : Word) (s : State) : (acknowledge d s).draws = s.draws := rfl

/-! The read data. -/

@[simp] theorem driveBus_cfg (v : Word) (s : State) : (driveBus v s).cfg = s.cfg := rfl
@[simp] theorem driveBus_launched (v : Word) (s : State) : (driveBus v s).launched = s.launched := rfl
@[simp] theorem driveBus_sync (v : Word) (s : State) : (driveBus v s).sync = s.sync := rfl
@[simp] theorem driveBus_pt (v : Word) (s : State) : (driveBus v s).pt = s.pt := rfl
@[simp] theorem driveBus_pc (v : Word) (s : State) : (driveBus v s).pc = s.pc := rfl
@[simp] theorem driveBus_fs (v : Word) (s : State) : (driveBus v s).fs = s.fs := rfl
@[simp] theorem driveBus_store (v : Word) (s : State) : (driveBus v s).store = s.store := rfl
@[simp] theorem driveBus_dm (v : Word) (s : State) : (driveBus v s).dm = s.dm := rfl
@[simp] theorem driveBus_hb (v : Word) (s : State) : (driveBus v s).hb = s.hb := rfl
@[simp] theorem driveBus_wires (v : Word) (s : State) : (driveBus v s).wires = s.wires := rfl
@[simp] theorem driveBus_out (v : Word) (s : State) : (driveBus v s).out = { s.out with busRdata := v } := rfl
@[simp] theorem driveBus_inputs (v : Word) (s : State) : (driveBus v s).inputs = s.inputs := rfl
@[simp] theorem driveBus_cycle (v : Word) (s : State) : (driveBus v s).cycle = s.cycle := rfl
@[simp] theorem driveBus_draws (v : Word) (s : State) : (driveBus v s).draws = s.draws := rfl

/-! A draw. -/

@[simp] theorem drawByte_cfg (s : State) : (drawByte s).2.cfg = s.cfg := rfl
@[simp] theorem drawByte_launched (s : State) : (drawByte s).2.launched = s.launched := rfl
@[simp] theorem drawByte_sync (s : State) : (drawByte s).2.sync = s.sync := rfl
@[simp] theorem drawByte_pt (s : State) : (drawByte s).2.pt = s.pt := rfl
@[simp] theorem drawByte_pc (s : State) : (drawByte s).2.pc = s.pc := rfl
@[simp] theorem drawByte_fs (s : State) : (drawByte s).2.fs = s.fs := rfl
@[simp] theorem drawByte_store (s : State) : (drawByte s).2.store = s.store := rfl
@[simp] theorem drawByte_dm (s : State) : (drawByte s).2.dm = s.dm := rfl
@[simp] theorem drawByte_hb (s : State) : (drawByte s).2.hb = s.hb := rfl
@[simp] theorem drawByte_wires (s : State) : (drawByte s).2.wires = s.wires := rfl
@[simp] theorem drawByte_out (s : State) : (drawByte s).2.out = s.out := rfl
@[simp] theorem drawByte_inputs (s : State) : (drawByte s).2.inputs = s.inputs := rfl
@[simp] theorem drawByte_cycle (s : State) : (drawByte s).2.cycle = s.cycle := rfl
@[simp] theorem drawByte_draws (s : State) : (drawByte s).2.draws = s.draws + 1 := rfl

/-! The swap. -/

@[simp] theorem swapSlots_cfg (s : State) : (swapSlots s).cfg = s.cfg := rfl
@[simp] theorem swapSlots_launched (s : State) : (swapSlots s).launched = s.launched := rfl
@[simp] theorem swapSlots_sync (s : State) : (swapSlots s).sync = s.sync := rfl
@[simp] theorem swapSlots_pt (s : State) : (swapSlots s).pt = s.pt := rfl
@[simp] theorem swapSlots_pc (s : State) : (swapSlots s).pc = s.pc := rfl
@[simp] theorem swapSlots_fs (s : State) : (swapSlots s).fs = { s.fs with active := otherSlot s.fs.active, ready := false, activeValid := true, swapCount := s.fs.swapCount + 1 } := rfl
@[simp] theorem swapSlots_store (s : State) : (swapSlots s).store = s.store := rfl
@[simp] theorem swapSlots_dm (s : State) : (swapSlots s).dm = s.dm := rfl
@[simp] theorem swapSlots_hb (s : State) : (swapSlots s).hb = { s.hb with swapped := true } := rfl
@[simp] theorem swapSlots_wires (s : State) : (swapSlots s).wires = { s.wires with setmask := s.wires.setmask ||| causeMask .swapped } := rfl
@[simp] theorem swapSlots_out (s : State) : (swapSlots s).out = s.out := rfl
@[simp] theorem swapSlots_inputs (s : State) : (swapSlots s).inputs = s.inputs := rfl
@[simp] theorem swapSlots_cycle (s : State) : (swapSlots s).cycle = s.cycle := rfl
@[simp] theorem swapSlots_draws (s : State) : (swapSlots s).draws = s.draws := rfl

/-! The DAC registers. -/

@[simp] theorem setDac_cfg (r g b : Code) (s : State) : (setDac r g b s).cfg = s.cfg := rfl
@[simp] theorem setDac_launched (r g b : Code) (s : State) : (setDac r g b s).launched = s.launched := rfl
@[simp] theorem setDac_sync (r g b : Code) (s : State) : (setDac r g b s).sync = s.sync := rfl
@[simp] theorem setDac_pt (r g b : Code) (s : State) : (setDac r g b s).pt = s.pt := rfl
@[simp] theorem setDac_pc (r g b : Code) (s : State) : (setDac r g b s).pc = s.pc := rfl
@[simp] theorem setDac_fs (r g b : Code) (s : State) : (setDac r g b s).fs = s.fs := rfl
@[simp] theorem setDac_store (r g b : Code) (s : State) : (setDac r g b s).store = s.store := rfl
@[simp] theorem setDac_dm (r g b : Code) (s : State) : (setDac r g b s).dm = { dacR := r, dacG := g, dacB := b } := rfl
@[simp] theorem setDac_hb (r g b : Code) (s : State) : (setDac r g b s).hb = s.hb := rfl
@[simp] theorem setDac_wires (r g b : Code) (s : State) : (setDac r g b s).wires = s.wires := rfl
@[simp] theorem setDac_out (r g b : Code) (s : State) : (setDac r g b s).out = s.out := rfl
@[simp] theorem setDac_inputs (r g b : Code) (s : State) : (setDac r g b s).inputs = s.inputs := rfl
@[simp] theorem setDac_cycle (r g b : Code) (s : State) : (setDac r g b s).cycle = s.cycle := rfl
@[simp] theorem setDac_draws (r g b : Code) (s : State) : (setDac r g b s).draws = s.draws := rfl

/-! Re-arming the countdown. -/

@[simp] theorem fireTick_cfg (s : State) : (fireTick s).cfg = s.cfg := rfl
@[simp] theorem fireTick_launched (s : State) : (fireTick s).launched = s.launched := rfl
@[simp] theorem fireTick_sync (s : State) : (fireTick s).sync = s.sync := rfl
@[simp] theorem fireTick_pt (s : State) : (fireTick s).pt = s.pt := rfl
@[simp] theorem fireTick_pc (s : State) : (fireTick s).pc = { s.pc with acc := (nextInterval s.pc).1, ctr := (nextInterval s.pc).2 } := rfl
@[simp] theorem fireTick_fs (s : State) : (fireTick s).fs = s.fs := rfl
@[simp] theorem fireTick_store (s : State) : (fireTick s).store = s.store := rfl
@[simp] theorem fireTick_dm (s : State) : (fireTick s).dm = s.dm := rfl
@[simp] theorem fireTick_hb (s : State) : (fireTick s).hb = s.hb := rfl
@[simp] theorem fireTick_wires (s : State) : (fireTick s).wires = { s.wires with tick := true } := rfl
@[simp] theorem fireTick_out (s : State) : (fireTick s).out = s.out := rfl
@[simp] theorem fireTick_inputs (s : State) : (fireTick s).inputs = s.inputs := rfl
@[simp] theorem fireTick_cycle (s : State) : (fireTick s).cycle = s.cycle := rfl
@[simp] theorem fireTick_draws (s : State) : (fireTick s).draws = s.draws := rfl

/-! ADVANCE. -/

@[simp] theorem advanceIndex_cfg (s : State) : (advanceIndex s).cfg = s.cfg := rfl
@[simp] theorem advanceIndex_launched (s : State) : (advanceIndex s).launched = s.launched := rfl
@[simp] theorem advanceIndex_sync (s : State) : (advanceIndex s).sync = s.sync := rfl
@[simp] theorem advanceIndex_pt (s : State) : (advanceIndex s).pt = s.pt := rfl
@[simp] theorem advanceIndex_pc (s : State) : (advanceIndex s).pc = { s.pc with pIdx := if s.pc.pIdx.toNat + 1 = s.cfg.n then 0 else s.pc.pIdx + 1, tc := sat32 (s.pc.tc.toNat + 1) } := rfl
@[simp] theorem advanceIndex_fs (s : State) : (advanceIndex s).fs = s.fs := rfl
@[simp] theorem advanceIndex_store (s : State) : (advanceIndex s).store = s.store := rfl
@[simp] theorem advanceIndex_dm (s : State) : (advanceIndex s).dm = s.dm := rfl
@[simp] theorem advanceIndex_hb (s : State) : (advanceIndex s).hb = s.hb := rfl
@[simp] theorem advanceIndex_wires (s : State) : (advanceIndex s).wires = s.wires := rfl
@[simp] theorem advanceIndex_out (s : State) : (advanceIndex s).out = s.out := rfl
@[simp] theorem advanceIndex_inputs (s : State) : (advanceIndex s).inputs = s.inputs := rfl
@[simp] theorem advanceIndex_cycle (s : State) : (advanceIndex s).cycle = s.cycle := rfl
@[simp] theorem advanceIndex_draws (s : State) : (advanceIndex s).draws = s.draws := rfl

/-! The start of a cycle. -/

@[simp] theorem beginCycle_cfg (s : State) : (beginCycle s).cfg = s.cfg := rfl
@[simp] theorem beginCycle_launched (s : State) : (beginCycle s).launched = s.launched := rfl
@[simp] theorem beginCycle_sync (s : State) : (beginCycle s).sync = s.sync := rfl
@[simp] theorem beginCycle_pt (s : State) : (beginCycle s).pt = s.pt := rfl
@[simp] theorem beginCycle_pc (s : State) : (beginCycle s).pc = s.pc := rfl
@[simp] theorem beginCycle_fs (s : State) : (beginCycle s).fs = s.fs := rfl
@[simp] theorem beginCycle_store (s : State) : (beginCycle s).store = s.store := rfl
@[simp] theorem beginCycle_dm (s : State) : (beginCycle s).dm = s.dm := rfl
@[simp] theorem beginCycle_hb (s : State) : (beginCycle s).hb = s.hb := rfl
@[simp] theorem beginCycle_wires (s : State) : (beginCycle s).wires = CycleWires.clear := rfl
@[simp] theorem beginCycle_out (s : State) : (beginCycle s).out = portsOf s := rfl
@[simp] theorem beginCycle_inputs (s : State) : (beginCycle s).inputs = s.inputs.tail := rfl
@[simp] theorem beginCycle_cycle (s : State) : (beginCycle s).cycle = s.cycle + 1 := rfl
@[simp] theorem beginCycle_draws (s : State) : (beginCycle s).draws = s.draws := rfl

/-! Taking a sensor fault. -/

@[simp] theorem takeSensorFault_cfg (c : Cause) (s : State) : (takeSensorFault c s).cfg = s.cfg := rfl
@[simp] theorem takeSensorFault_launched (c : Cause) (s : State) : (takeSensorFault c s).launched = s.launched := rfl
@[simp] theorem takeSensorFault_sync (c : Cause) (s : State) : (takeSensorFault c s).sync = s.sync := rfl
@[simp] theorem takeSensorFault_pt (c : Cause) (s : State) : (takeSensorFault c s).pt = { s.pt with syncValid := false } := rfl
@[simp] theorem takeSensorFault_pc (c : Cause) (s : State) : (takeSensorFault c s).pc = { s.pc with aligned := false } := rfl
@[simp] theorem takeSensorFault_fs (c : Cause) (s : State) : (takeSensorFault c s).fs = s.fs := rfl
@[simp] theorem takeSensorFault_store (c : Cause) (s : State) : (takeSensorFault c s).store = s.store := rfl
@[simp] theorem takeSensorFault_dm (c : Cause) (s : State) : (takeSensorFault c s).dm = { dacR := 0, dacG := 0, dacB := 0 } := rfl
@[simp] theorem takeSensorFault_hb (c : Cause) (s : State) : (takeSensorFault c s).hb = setSticky c s.hb := rfl
@[simp] theorem takeSensorFault_wires (c : Cause) (s : State) : (takeSensorFault c s).wires = { s.wires with setmask := s.wires.setmask ||| causeMask c, enterIdle := true } := rfl
@[simp] theorem takeSensorFault_out (c : Cause) (s : State) : (takeSensorFault c s).out = s.out := rfl
@[simp] theorem takeSensorFault_inputs (c : Cause) (s : State) : (takeSensorFault c s).inputs = s.inputs := rfl
@[simp] theorem takeSensorFault_cycle (c : Cause) (s : State) : (takeSensorFault c s).cycle = s.cycle := rfl
@[simp] theorem takeSensorFault_draws (c : Cause) (s : State) : (takeSensorFault c s).draws = s.draws := rfl

/-! The pixel timer: the fields outside the pixel clock and the internal signals. -/

@[simp] theorem pixelTimer_cfg (s : State) : (pixelTimer s).cfg = s.cfg := by unfold pixelTimer; split_ifs <;> rfl
@[simp] theorem pixelTimer_launched (s : State) : (pixelTimer s).launched = s.launched := by unfold pixelTimer; split_ifs <;> rfl
@[simp] theorem pixelTimer_sync (s : State) : (pixelTimer s).sync = s.sync := by unfold pixelTimer; split_ifs <;> rfl
@[simp] theorem pixelTimer_pt (s : State) : (pixelTimer s).pt = s.pt := by unfold pixelTimer; split_ifs <;> rfl
@[simp] theorem pixelTimer_fs (s : State) : (pixelTimer s).fs = s.fs := by unfold pixelTimer; split_ifs <;> rfl
@[simp] theorem pixelTimer_store (s : State) : (pixelTimer s).store = s.store := by unfold pixelTimer; split_ifs <;> rfl
@[simp] theorem pixelTimer_dm (s : State) : (pixelTimer s).dm = s.dm := by unfold pixelTimer; split_ifs <;> rfl
@[simp] theorem pixelTimer_hb (s : State) : (pixelTimer s).hb = s.hb := by unfold pixelTimer; split_ifs <;> rfl
@[simp] theorem pixelTimer_out (s : State) : (pixelTimer s).out = s.out := by unfold pixelTimer; split_ifs <;> rfl
@[simp] theorem pixelTimer_inputs (s : State) : (pixelTimer s).inputs = s.inputs := by unfold pixelTimer; split_ifs <;> rfl
@[simp] theorem pixelTimer_cycle (s : State) : (pixelTimer s).cycle = s.cycle := by unfold pixelTimer; split_ifs <;> rfl
@[simp] theorem pixelTimer_draws (s : State) : (pixelTimer s).draws = s.draws := by unfold pixelTimer; split_ifs <;> rfl

/-! The alignment: the fields outside the pixel clock. -/

@[simp] theorem alignIndex_cfg (s : State) : (alignIndex s).cfg = s.cfg := by unfold alignIndex; split_ifs <;> rfl
@[simp] theorem alignIndex_launched (s : State) : (alignIndex s).launched = s.launched := by unfold alignIndex; split_ifs <;> rfl
@[simp] theorem alignIndex_sync (s : State) : (alignIndex s).sync = s.sync := by unfold alignIndex; split_ifs <;> rfl
@[simp] theorem alignIndex_pt (s : State) : (alignIndex s).pt = s.pt := by unfold alignIndex; split_ifs <;> rfl
@[simp] theorem alignIndex_fs (s : State) : (alignIndex s).fs = s.fs := by unfold alignIndex; split_ifs <;> rfl
@[simp] theorem alignIndex_store (s : State) : (alignIndex s).store = s.store := by unfold alignIndex; split_ifs <;> rfl
@[simp] theorem alignIndex_dm (s : State) : (alignIndex s).dm = s.dm := by unfold alignIndex; split_ifs <;> rfl
@[simp] theorem alignIndex_hb (s : State) : (alignIndex s).hb = s.hb := by unfold alignIndex; split_ifs <;> rfl
@[simp] theorem alignIndex_wires (s : State) : (alignIndex s).wires = s.wires := by unfold alignIndex; split_ifs <;> rfl
@[simp] theorem alignIndex_out (s : State) : (alignIndex s).out = s.out := by unfold alignIndex; split_ifs <;> rfl
@[simp] theorem alignIndex_inputs (s : State) : (alignIndex s).inputs = s.inputs := by unfold alignIndex; split_ifs <;> rfl
@[simp] theorem alignIndex_cycle (s : State) : (alignIndex s).cycle = s.cycle := by unfold alignIndex; split_ifs <;> rfl
@[simp] theorem alignIndex_draws (s : State) : (alignIndex s).draws = s.draws := by unfold alignIndex; split_ifs <;> rfl

/-! The arbiter's part of a tick: the fields outside the arbiter, the sticky flags and the internal signals. -/

@[simp] theorem arbitrate_cfg (s : State) : (arbitrate s).cfg = s.cfg := by unfold arbitrate; dsimp only; split_ifs <;> rfl
@[simp] theorem arbitrate_launched (s : State) : (arbitrate s).launched = s.launched := by unfold arbitrate; dsimp only; split_ifs <;> rfl
@[simp] theorem arbitrate_sync (s : State) : (arbitrate s).sync = s.sync := by unfold arbitrate; dsimp only; split_ifs <;> rfl
@[simp] theorem arbitrate_pt (s : State) : (arbitrate s).pt = s.pt := by unfold arbitrate; dsimp only; split_ifs <;> rfl
@[simp] theorem arbitrate_pc (s : State) : (arbitrate s).pc = s.pc := by unfold arbitrate; dsimp only; split_ifs <;> rfl
@[simp] theorem arbitrate_store (s : State) : (arbitrate s).store = s.store := by unfold arbitrate; dsimp only; split_ifs <;> rfl
@[simp] theorem arbitrate_dm (s : State) : (arbitrate s).dm = s.dm := by unfold arbitrate; dsimp only; split_ifs <;> rfl
@[simp] theorem arbitrate_out (s : State) : (arbitrate s).out = s.out := by unfold arbitrate; dsimp only; split_ifs <;> rfl
@[simp] theorem arbitrate_inputs (s : State) : (arbitrate s).inputs = s.inputs := by unfold arbitrate; dsimp only; split_ifs <;> rfl
@[simp] theorem arbitrate_cycle (s : State) : (arbitrate s).cycle = s.cycle := by unfold arbitrate; dsimp only; split_ifs <;> rfl
@[simp] theorem arbitrate_draws (s : State) : (arbitrate s).draws = s.draws := by unfold arbitrate; dsimp only; split_ifs <;> rfl

end Sys2Proof.Machine
end

