-- ==== Sys2Proof/Laws/Memory.lean ====
section
/-! SUPPORT. The frame store: read after write, the canonical form, and the cells that exist. -/

namespace Sys2Proof.Machine

@[simp] theorem Memory.read_nil (a : Nat) : Memory.read [] a = none := rfl

/-- A read after a write to the same address gives the byte written. -/
@[simp] theorem Memory.read_write_same (m : Memory) (a : Nat) (v : Byte) :
    Memory.read (Memory.write m a v) a = some v := by
  induction m with
  | nil => simp [Memory.write, Memory.read]
  | cons x m ih =>
    obtain ⟨b, w⟩ := x
    unfold Memory.write
    split_ifs with h1 h2
    · simp [Memory.read]
    · simp [Memory.read]
    · simp [Memory.read, h2, ih]

/-- A write leaves every other address alone. -/
theorem Memory.read_write_other (m : Memory) (a b : Nat) (v : Byte) (h : b ≠ a) :
    Memory.read (Memory.write m a v) b = Memory.read m b := by
  induction m with
  | nil => simp [Memory.write, Memory.read, h]
  | cons x m ih =>
    obtain ⟨c, w⟩ := x
    unfold Memory.write
    split_ifs with h1 h2
    · simp [Memory.read, h]
    · subst h2; simp [Memory.read, h]
    · simp only [Memory.read, ih]

/-- The addresses listed after a write: the one written and the old ones. -/
theorem Memory.mem_write {m : Memory} {a : Nat} {v : Byte} {x : Host.Cell} (h : x ∈ Memory.write m a v) :
    x = (a, v) ∨ x ∈ m := by
  induction m with
  | nil => simpa [Memory.write] using h
  | cons y m ih =>
    obtain ⟨b, w⟩ := y
    unfold Memory.write at h
    split_ifs at h with h1 h2
    · simpa using h
    · rcases List.mem_cons.mp h with h | h
      · exact .inl h
      · exact .inr (List.mem_cons_of_mem _ h)
    · rcases List.mem_cons.mp h with h | h
      · exact .inr (by simp [h])
      · rcases ih h with h | h
        · exact .inl h
        · exact .inr (List.mem_cons_of_mem _ h)

theorem Memory.wf_iff (m : Memory) : Memory.wf m = true ↔ m.Pairwise fun x y => x.1 < y.1 := by
  simp [Memory.wf]

@[simp] theorem Memory.wf_nil : Memory.wf [] = true := rfl

/-- A write keeps the canonical form. -/
theorem Memory.wf_write {m : Memory} (a : Nat) (v : Byte) (h : Memory.wf m = true) :
    Memory.wf (Memory.write m a v) = true := by
  rw [Memory.wf_iff] at *
  induction m with
  | nil => simp [Memory.write]
  | cons y m ih =>
    obtain ⟨b, w⟩ := y
    have hc := List.pairwise_cons.mp h
    unfold Memory.write
    split_ifs with h1 h2
    · refine List.pairwise_cons.mpr ⟨fun x hx => ?_, h⟩
      rcases List.mem_cons.mp hx with rfl | hx
      · exact h1
      · exact lt_trans h1 (hc.1 x hx)
    · subst h2
      exact List.pairwise_cons.mpr hc
    · refine List.pairwise_cons.mpr ⟨fun x hx => ?_, ih hc.2⟩
      rcases Memory.mem_write hx with rfl | hx
      · show b < a
        omega
      · exact hc.1 x hx

theorem Memory.within_iff (c : Config) (m : Memory) :
    Memory.within c m = true ↔ ∀ x ∈ m, x.1 < 2 * c.slotBytes := by
  simp [Memory.within]

@[simp] theorem Memory.within_nil (c : Config) : Memory.within c [] = true := rfl

/-- A write to a cell that exists keeps every listed cell existing. -/
theorem Memory.within_write {c : Config} {m : Memory} {a : Nat} (v : Byte) (ha : a < 2 * c.slotBytes)
    (h : Memory.within c m = true) : Memory.within c (Memory.write m a v) = true := by
  rw [Memory.within_iff] at *
  intro x hx
  rcases Memory.mem_write hx with rfl | hx
  · exact ha
  · exact h x hx

/-- The address of an offset a slot has. -/
theorem cellAddress_of_lt {c : Config} {o : Nat} (sl : Slot) (h : o < c.slotBytes) :
    cellAddress c sl o = some (slotNumber sl * c.slotBytes + o) := by
  simp [cellAddress, h]

/-- An offset past the slot's end has no address. -/
theorem cellAddress_of_ge {c : Config} {o : Nat} (sl : Slot) (h : c.slotBytes ≤ o) : cellAddress c sl o = none := by
  simp [cellAddress, Nat.not_lt.mpr h]

theorem cellAddress_eq_some {c : Config} {sl : Slot} {o a : Nat} (h : cellAddress c sl o = some a) :
    o < c.slotBytes ∧ a = slotNumber sl * c.slotBytes + o := by
  unfold cellAddress at h
  split_ifs at h with ho
  exact ⟨ho, (Option.some.inj h).symm⟩

theorem slotNumber_le (sl : Slot) : slotNumber sl ≤ 1 := by cases sl <;> decide

/-- A cell with an address exists (20_memory.md R48). -/
theorem cellAddress_lt {c : Config} {sl : Slot} {o a : Nat} (h : cellAddress c sl o = some a) :
    a < 2 * c.slotBytes := by
  obtain ⟨ho, rfl⟩ := cellAddress_eq_some h
  have := Nat.mul_le_mul_right c.slotBytes (slotNumber_le sl)
  omega

/-- Different cells have different addresses (20_memory.md R48). -/
theorem cellAddress_inj {c : Config} {sl sl' : Slot} {o o' a : Nat} (h : cellAddress c sl o = some a)
    (h' : cellAddress c sl' o' = some a) : sl = sl' ∧ o = o' := by
  obtain ⟨ho, ha⟩ := cellAddress_eq_some h
  obtain ⟨ho', ha'⟩ := cellAddress_eq_some h'
  rw [ha] at ha'
  cases sl <;> cases sl' <;> simp [slotNumber] at ha' ⊢ <;> omega

@[simp] theorem otherSlot_ne (sl : Slot) : otherSlot sl ≠ sl := by cases sl <;> decide

@[simp] theorem otherSlot_otherSlot (sl : Slot) : otherSlot (otherSlot sl) = sl := by cases sl <;> rfl

/-- The byte of a cell after a write to it. -/
theorem slotByte_write_same {s : State} {sl : Slot} {o a : Nat} (v : Byte) (h : cellAddress s.cfg sl o = some a) :
    slotByte { s with store := Memory.write s.store a v } sl o = some v := by
  simp [slotByte, h]

/-- A write to one cell leaves the byte of every other cell. -/
theorem slotByte_write_other {s : State} {sl sl' : Slot} {o o' a : Nat} (v : Byte)
    (h : cellAddress s.cfg sl o = some a) (hne : sl' ≠ sl ∨ o' ≠ o) :
    slotByte { s with store := Memory.write s.store a v } sl' o' = slotByte s sl' o' := by
  unfold slotByte
  cases h' : cellAddress s.cfg sl' o' with
  | none => rfl
  | some a' =>
    have hne' : a' ≠ a := fun he => by
      subst he
      obtain ⟨h1, h2⟩ := cellAddress_inj h' h
      rcases hne with hn | hn
      · exact hn h1
      · exact hn h2
    exact Memory.read_write_other _ _ _ _ hne'

/-- The bytes of a slot depend on the configuration and the store only. -/
theorem slotByte_congr {s t : State} (hc : t.cfg = s.cfg) (hs : t.store = s.store) (sl : Slot) (o : Nat) :
    slotByte t sl o = slotByte s sl o := by
  simp [slotByte, hc, hs]

end Sys2Proof.Machine
end

