-- ==== Sys2Proof/Laws/Ops.lean ====
section
/-! SUPPORT. What each shared operation can do, said once: composition, the arithmetic primitives, the fault
operations and the emission. -/

namespace Sys2Proof.Machine

/-! Composition. -/

@[simp] theorem andThen_next (s : State) (k : State → Result) : andThen (.next s) k = k s := rfl

@[simp] theorem andThen_fault (f : Fault) (k : State → Result) : andThen (.fault f) k = .fault f := rfl

@[simp] theorem andThen_refused (f : Refusal) (k : State → Result) : andThen (.refused f) k = .refused f := rfl

/-- A composition that answers a next state: its first part answers one, and the second answers from there. -/
theorem andThen_eq_next {r : Result} {k : State → Result} {t : State} (h : andThen r k = .next t) :
    ∃ m, r = .next m ∧ k m = .next t := by
  cases r with
  | next m => exact ⟨m, rfl, h⟩
  | fault f => cases h
  | refused f => cases h

theorem andThen_assoc (r : Result) (k l : State → Result) :
    andThen (andThen r k) l = andThen r fun s => andThen (k s) l := by
  cases r <;> rfl

@[simp] theorem andThen_pure (r : Result) : (andThen r fun s => .next s) = r := by cases r <;> rfl

/-! Arithmetic primitives (00_scope.md R14). -/

@[simp] theorem sat32_toNat (x : Nat) : (sat32 x).toNat = min x (2 ^ 32 - 1) := by
  unfold sat32
  rw [BitVec.toNat_ofNat]
  exact Nat.mod_eq_of_lt (by omega)

@[simp] theorem satS32_toInt (x : Int) : (satS32 x).toInt = max (-2 ^ 31) (min (2 ^ 31 - 1) x) := by
  unfold satS32
  rw [BitVec.toInt_ofInt]
  apply Int.bmod_eq_of_le
  · show -(((2 : Nat) ^ 32 : Nat) / 2 : Int) ≤ _
    norm_num
  · norm_num

@[simp] theorem clamp6_toNat (v : Byte) : (clamp6 v).toNat = min v.toNat 63 := by
  unfold clamp6
  rw [BitVec.toNat_ofNat]
  exact Nat.mod_eq_of_lt (by omega)

theorem asr_eq_floor (x : Int) (k : Nat) : asr x k = x / 2 ^ k := rfl

theorem clampInt_bounds {lo hi : Int} (x : Int) (h : lo ≤ hi) : lo ≤ clampInt x lo hi ∧ clampInt x lo hi ≤ hi := by
  unfold clampInt
  omega

/-- The count of one more cycle, as a number (40_pulse_timer.md R80, R82). -/
@[simp] theorem elapsedNext_toNat (s : State) : (elapsedNext s).toNat = min (s.pt.e.toNat + 1) (2 ^ 32 - 1) := by
  simp [elapsedNext]

/-! Causes and sticky flags. -/

/-- A cause's mask has the cause's bit and no other sticky bit (60_exceptions.md R147). -/
theorem causeMask_getLsbD (c d : Cause) : (causeMask c).getLsbD (causeBit d) = decide (c = d) := by
  cases c <;> cases d <;> decide

@[simp] theorem stickyFlag_setSticky (c d : Cause) (h : HostRegs) :
    stickyFlag d (setSticky c h) = (decide (c = d) || stickyFlag d h) := by
  cases c <;> cases d <;> simp [stickyFlag, setSticky]

/-- What write-1-to-clear leaves of a flag (44_host_bus.md R131). -/
theorem stickyFlag_clearSticky (clr : Word) (d : Cause) (h : HostRegs) :
    stickyFlag d (clearSticky clr h) = (stickyFlag d h && !clr.getLsbD (causeBit d)) := by
  cases d <;> rfl

/-- The bits a WR.STATUS clears: those written as 1 that the block did not set in this cycle. -/
theorem clearMask_getLsbD (wd m : Word) (d : Cause) :
    (clearMask wd m).getLsbD (causeBit d) = (wd.getLsbD (causeBit d) && !m.getLsbD (causeBit d)) := by
  cases d <;> simp [clearMask, causeBit]

/-! The emission. -/

/-- What one channel read can do: the stored byte with nothing changed, or a fresh draw (42_frame_store.md R106). -/
theorem readChannel_ok {o : Nat} {s s' : State} {v : Byte} (h : readChannel o s = .ok (v, s')) :
    (slotByte s s.fs.active o = some v ∧ s' = s) ∨
      (slotByte s s.fs.active o = none ∧ v = Config.freeByte s.draws ∧ s' = { s with draws := s.draws + 1 }) := by
  unfold readChannel at h
  unfold slotByte
  cases hc : cellAddress s.cfg s.fs.active o with
  | none => simp [hc] at h
  | some a =>
    simp only [hc] at h ⊢
    cases hr : Memory.read s.store a with
    | none =>
      simp only [hr, Except.ok.injEq, drawByte, Prod.mk.injEq] at h
      exact .inr ⟨rfl, h.1.symm, h.2.symm⟩
    | some w =>
      simp only [hr, Except.ok.injEq, Prod.mk.injEq] at h
      exact .inl ⟨by rw [h.1], h.2.symm⟩

/-- A channel of an existing cell can be read. -/
theorem readChannel_exists {o : Nat} {s : State} (h : o < s.cfg.slotBytes) :
    ∃ v n, readChannel o s = .ok (v, { s with draws := n }) := by
  unfold readChannel
  rw [cellAddress_of_lt _ h]
  dsimp only
  split
  · exact ⟨_, s.draws, rfl⟩
  · exact ⟨_, s.draws + 1, rfl⟩

/-- An emission read changes nothing but the number of draws (42_frame_store.md R106). -/
theorem emitRead_ok {p : Nat} {s s' : State} {v : Byte × Byte × Byte} (h : emitRead p s = .ok (v, s')) :
    ∃ n, s' = { s with draws := n } := by
  unfold emitRead at h
  cases h1 : readChannel (3 * p) s with
  | error f => simp [h1] at h
  | ok x1 =>
    obtain ⟨r, s1⟩ := x1
    simp only [h1] at h
    cases h2 : readChannel (3 * p + 1) s1 with
    | error f => simp [h2] at h
    | ok x2 =>
      obtain ⟨g, s2⟩ := x2
      simp only [h2] at h
      cases h3 : readChannel (3 * p + 2) s2 with
      | error f => simp [h3] at h
      | ok x3 =>
        obtain ⟨b, s3⟩ := x3
        simp only [h3, Except.ok.injEq, Prod.mk.injEq] at h
        obtain ⟨-, rfl⟩ := h
        rcases readChannel_ok h1 with ⟨-, rfl⟩ | ⟨-, -, rfl⟩ <;>
        rcases readChannel_ok h2 with ⟨-, rfl⟩ | ⟨-, -, rfl⟩ <;>
        rcases readChannel_ok h3 with ⟨-, rfl⟩ | ⟨-, -, rfl⟩ <;>
        exact ⟨_, rfl⟩

/-- A pixel of the slot can be emitted (20_memory.md R54). -/
theorem emitRead_exists {p : Nat} {s : State} (h : p < s.cfg.n) : ∃ v n, emitRead p s = .ok (v, { s with draws := n }) := by
  have hs : s.cfg.slotBytes = 3 * s.cfg.n := rfl
  unfold emitRead
  obtain ⟨r, n1, h1⟩ := readChannel_exists (s := s) (o := 3 * p) (by omega)
  obtain ⟨g, n2, h2⟩ := readChannel_exists (s := { s with draws := n1 }) (o := 3 * p + 1) (by show _ < s.cfg.slotBytes; omega)
  obtain ⟨b, n3, h3⟩ := readChannel_exists (s := { s with draws := n2 }) (o := 3 * p + 2) (by show _ < s.cfg.slotBytes; omega)
  simp only [h1, h2, h3]
  exact ⟨_, _, rfl⟩

/-- What an emission can do: the DAC registers and the number of draws, nothing else (43_dac_mapper.md R118). -/
theorem emitPixel_next {p : Nat} {s t : State} (h : emitPixel p s = .next t) :
    ∃ d n, t = { s with dm := d, draws := n } := by
  unfold emitPixel at h
  split_ifs at h
  · cases he : emitRead p s with
    | error f => simp [he] at h
    | ok x =>
      obtain ⟨⟨r, g, b⟩, s'⟩ := x
      obtain ⟨n, rfl⟩ := emitRead_ok he
      simp only [he, Host.Outcome.next.injEq] at h
      exact ⟨_, _, h.symm⟩
  · simp only [Host.Outcome.next.injEq] at h
    exact ⟨_, s.draws, h.symm⟩

/-- A blank emission (43_dac_mapper.md R118, R120). -/
theorem emitPixel_blank {p : Nat} {s : State} (h : (s.pc.aligned && s.fs.activeValid) = false) :
    emitPixel p s = .next (setDac 0 0 0 s) := by
  simp [emitPixel, h]

/-- An emission of a pixel of the slot completes. -/
theorem emitPixel_exists {p : Nat} {s : State} (h : p < s.cfg.n) : ∃ d n, emitPixel p s = .next { s with dm := d, draws := n } := by
  unfold emitPixel
  split_ifs
  · obtain ⟨v, n, he⟩ := emitRead_exists h
    simp only [he]
    exact ⟨_, _, rfl⟩
  · exact ⟨_, s.draws, rfl⟩

/-- The emission of a pixel whose three bytes are written: their clamped values, and no draw (42_frame_store.md R106,
43_dac_mapper.md R118). -/
theorem emitPixel_stored {p : Nat} {s : State} {r g b : Byte} (ha : s.pc.aligned = true) (hv : s.fs.activeValid = true)
    (hr : slotByte s s.fs.active (3 * p) = some r) (hg : slotByte s s.fs.active (3 * p + 1) = some g)
    (hb : slotByte s s.fs.active (3 * p + 2) = some b) :
    emitPixel p s = .next (setDac (clamp6 r) (clamp6 g) (clamp6 b) s) := by
  have key : ∀ (o : Nat) (v : Byte), slotByte s s.fs.active o = some v → readChannel o s = .ok (v, s) := by
    intro o v ho
    unfold slotByte at ho
    unfold readChannel
    cases hc : cellAddress s.cfg s.fs.active o with
    | none => simp [hc] at ho
    | some a =>
      simp only [hc] at ho ⊢
      simp [ho]
  simp [emitPixel, ha, hv, emitRead, key _ _ hr, key _ _ hg, key _ _ hb]

end Sys2Proof.Machine
end

