-- ==== Sys2Proof/Laws/Cycle.lean ====
section
/-! SUPPORT. What a cycle can do, said once: the inversion of each part of the step and of the step itself. -/

namespace Sys2Proof.Machine

/-! The transaction. -/

/-- The read data of a cycle with word `w` and start state `s` (44_host_bus.md R125). -/
def busData (w : TxWord) (s : State) : Word := if w.sel && !w.we then readRegister w.addr s else 0

/-- The read of an address drives that register (44_host_bus.md R125, R128 to R144). -/
theorem exec_decodeRead (a : BitVec 4) (s : State) : exec (decodeRead a) s = .next (driveBus (readRegister a s) s) := by
  obtain ⟨⟨n, hn⟩⟩ := a
  interval_cases n <;> rfl

/-- A register reads the same at the start of a cycle as in the state the cycle starts from. -/
theorem readRegister_beginCycle (a : BitVec 4) (s : State) : readRegister a (beginCycle s) = readRegister a s := by
  obtain ⟨⟨n, hn⟩⟩ := a
  interval_cases n <;> rfl

/-- The start of a transaction drives the read data and does nothing else. -/
theorem startTransaction_beginCycle (w : TxWord) (s : State) :
    startTransaction w (beginCycle s) = .next (driveBus (busData w s) (beginCycle s)) := by
  unfold startTransaction busData decode
  cases hs : w.sel <;> cases hw : w.we <;> simp
  · rfl
  · rfl
  · rw [exec_decodeRead, readRegister_beginCycle]
  · rfl

/-- A write in range: the store, READY and LOAD_PTR (42_frame_store.md R111). -/
theorem execWrLoaddata_in_range {d : Word} {s : State} (h : s.fs.loadPtr.toNat < s.cfg.slotBytes) :
    execWrLoaddata d s = .next
      { s with
        store := Memory.write s.store (slotNumber (standbySlot s) * s.cfg.slotBytes + s.fs.loadPtr.toNat) (byteField d)
        fs := { s.fs with ready := false, loadPtr := s.fs.loadPtr + 1 } } := by
  simp only [execWrLoaddata, cellAddress_of_lt _ h]

/-- A write past the slot's end: the load fault and nothing else (42_frame_store.md R111). -/
theorem execWrLoaddata_overflow {d : Word} {s : State} (h : s.cfg.slotBytes ≤ s.fs.loadPtr.toNat) :
    execWrLoaddata d s = .next (raise .loadOvf s) := by
  simp only [execWrLoaddata, cellAddress_of_ge _ h]

/-- What the end of a transaction can do: nothing, where the word writes none of CTRL, STATUS, LOADPTR and LOADDATA, or
the write of one of the five writable addresses. -/
theorem endTransaction_cases (w : TxWord) (s : State) :
    (∃ t, endTransaction w s = .next t ∧
      ((t = s ∧ (w.sel && w.we && decide (w.addr.toNat < 4)) = false) ∨
       (w.sel = true ∧ w.we = true ∧ w.addr = 0 ∧
        t = { s with pc := { s.pc with phaseOffset := phaseOffsetField w.wdata }
                     hb := { s.hb with swapIe := swapIeField w.wdata, faultIe := faultIeField w.wdata } }) ∨
       (w.sel = true ∧ w.we = true ∧ w.addr = 1 ∧ t = acknowledge w.wdata s) ∨
       (w.sel = true ∧ w.we = true ∧ w.addr = 2 ∧
        t = { s with fs := { s.fs with loadPtr := loadPtrField w.wdata } }) ∨
       (w.sel = true ∧ w.we = true ∧ w.addr = 3 ∧ s.fs.loadPtr.toNat < s.cfg.slotBytes ∧
        t = { s with
              store := Memory.write s.store
                (slotNumber (standbySlot s) * s.cfg.slotBytes + s.fs.loadPtr.toNat) (byteField w.wdata)
              fs := { s.fs with ready := false, loadPtr := s.fs.loadPtr + 1 } }) ∨
       (w.sel = true ∧ w.we = true ∧ w.addr = 3 ∧ s.cfg.slotBytes ≤ s.fs.loadPtr.toNat ∧ t = raise .loadOvf s) ∨
       (w.sel = true ∧ w.we = true ∧ w.addr = 4 ∧ commitField w.wdata = true ∧
        t = { s with fs := { s.fs with ready := true } }))) := by
  unfold endTransaction decode
  cases hs : w.sel <;> cases hw : w.we <;>
    simp only [Bool.and_false, Bool.and_true, Bool.false_and, Bool.true_and, Bool.false_eq_true, if_false, if_true]
  · exact ⟨s, rfl, .inl ⟨rfl, trivial⟩⟩
  · exact ⟨s, rfl, .inl ⟨rfl, trivial⟩⟩
  · exact ⟨s, rfl, .inl ⟨rfl, trivial⟩⟩
  · generalize w.addr = a
    generalize w.wdata = d
    obtain ⟨⟨n, hn⟩⟩ := a
    interval_cases n
    · exact ⟨_, rfl, .inr (.inl ⟨trivial, trivial, rfl, rfl⟩)⟩
    · exact ⟨_, rfl, .inr (.inr (.inl ⟨trivial, trivial, rfl, rfl⟩))⟩
    · exact ⟨_, rfl, .inr (.inr (.inr (.inl ⟨trivial, trivial, rfl, rfl⟩)))⟩
    · rcases Nat.lt_or_ge s.fs.loadPtr.toNat s.cfg.slotBytes with h | h
      · exact ⟨_, execWrLoaddata_in_range h, .inr (.inr (.inr (.inr (.inl ⟨trivial, trivial, rfl, h, rfl⟩))))⟩
      · exact ⟨_, execWrLoaddata_overflow h, .inr (.inr (.inr (.inr (.inr (.inl ⟨trivial, trivial, rfl, h, rfl⟩)))))⟩
    · cases hc : commitField d
      · exact ⟨s, by show execWrCmd d s = _; simp [execWrCmd, hc], .inl ⟨rfl, rfl⟩⟩
      · exact ⟨_, by show execWrCmd d s = _; simp only [execWrCmd, hc, if_true],
          .inr (.inr (.inr (.inr (.inr (.inr ⟨trivial, trivial, rfl, rfl, rfl⟩)))))⟩
    all_goals exact ⟨s, rfl, .inl ⟨rfl, rfl⟩⟩

/-! The pulse timer's part. -/

/-- What step 2 of a cycle can do: one of the four pulse classes, a timeout, or a plain elapse (40_pulse_timer.md
R80 to R86, 60_exceptions.md R156). -/
theorem pulseTimerPart_cases (s : State) :
    ∃ t, pulseTimerPart s = .next t ∧
      ((s.wires.pulse = true ∧ s.pt.haveLast = false ∧
        t = { measure s with pt := { (measure s).pt with haveLast := true } }) ∨
       (s.wires.pulse = true ∧ s.pt.haveLast = true ∧ (elapsedNext s).toNat < s.cfg.pMin ∧
        t = takeSensorFault .short (measure s)) ∨
       (s.wires.pulse = true ∧ s.pt.haveLast = true ∧ s.cfg.pMin ≤ (elapsedNext s).toNat ∧
        s.cfg.pMax < (elapsedNext s).toNat ∧ t = takeSensorFault .long (measure s)) ∨
       (s.wires.pulse = true ∧ s.pt.haveLast = true ∧ s.cfg.pMin ≤ (elapsedNext s).toNat ∧
        (elapsedNext s).toNat ≤ s.cfg.pMax ∧ t = acceptPulse (elapsedNext s) s.pc.tc (measure s)) ∨
       (s.wires.pulse = false ∧ s.pt.syncValid = true ∧ s.cfg.pMax < (elapsedNext s).toNat ∧
        t = takeSensorFault .timeout (countElapsed s)) ∨
       (s.wires.pulse = false ∧ (s.pt.syncValid = true → (elapsedNext s).toNat ≤ s.cfg.pMax) ∧
        t = countElapsed s)) := by
  unfold pulseTimerPart
  cases hp : s.wires.pulse
  · simp only [Bool.false_eq_true, if_false]
    show ∃ t, execEvElapse s = .next t ∧ _
    unfold execEvElapse
    dsimp only
    split_ifs with hd
    · simp only [timeoutDue, countElapsed_pt, countElapsed_cfg, Bool.and_eq_true] at hd
      exact ⟨_, rfl, .inr (.inr (.inr (.inr (.inl ⟨trivial, hd.1, of_decide_eq_true hd.2, rfl⟩))))⟩
    · refine ⟨_, rfl, .inr (.inr (.inr (.inr (.inr ⟨trivial, fun hv => ?_, rfl⟩))))⟩
      simp only [timeoutDue, countElapsed_pt, countElapsed_cfg, hv, Bool.true_and, decide_eq_true_eq] at hd
      exact Nat.not_lt.mp hd
  · simp only [if_true]
    unfold pulseClass
    split_ifs with h1 h2 h3
    · exact ⟨_, rfl, .inl ⟨trivial, h1, rfl⟩⟩
    · exact ⟨_, rfl, .inr (.inl ⟨trivial, Bool.not_eq_false _ ▸ h1, h2, rfl⟩)⟩
    · exact ⟨_, rfl, .inr (.inr (.inl ⟨trivial, Bool.not_eq_false _ ▸ h1, Nat.not_lt.mp h2, h3, rfl⟩))⟩
    · exact ⟨_, rfl, .inr (.inr (.inr (.inl ⟨trivial, Bool.not_eq_false _ ▸ h1, Nat.not_lt.mp h2, Nat.not_lt.mp h3, rfl⟩)))⟩

/-! The pixel clock's part. -/

/-- What the pixel timer can do: fire, hold while idle, or count down (41_pixel_clock.md R93). -/
theorem pixelTimer_cases (s : State) :
    ((s.wires.accepted = true ∨ (s.pt.syncValid = true ∧ s.pc.ctr.toNat ≤ 1)) ∧ pixelTimer s = fireTick s) ∨
      (s.wires.accepted = false ∧ s.pt.syncValid = false ∧
        pixelTimer s = { s with wires := { s.wires with tick := false } }) ∨
      (s.wires.accepted = false ∧ s.pt.syncValid = true ∧ 1 < s.pc.ctr.toNat ∧
        pixelTimer s = { s with pc := { s.pc with ctr := s.pc.ctr - 1 }, wires := { s.wires with tick := false } }) := by
  unfold pixelTimer
  split_ifs with h1 h2 h3
  · exact .inl ⟨.inl h1, rfl⟩
  · exact .inr (.inl ⟨Bool.not_eq_true _ ▸ h1, h2, rfl⟩)
  · exact .inl ⟨.inr ⟨Bool.not_eq_false _ ▸ h2, h3⟩, rfl⟩
  · exact .inr (.inr ⟨Bool.not_eq_true _ ▸ h1, Bool.not_eq_false _ ▸ h2, Nat.not_le.mp h3, rfl⟩)

/-- The state a tick emits from, after alignment and arbitration (41_pixel_clock.md R99). -/
def beforeEmission (s : State) : State := arbitrate (alignIndex s)

/-- What a tick can do: alignment, arbitration, an emission that writes only the DAC registers and the number of
draws, and the advance (41_pixel_clock.md R99). -/
theorem execEvTick_next {s t : State} (h : execEvTick s = .next t) :
    ∃ d n, emitPixel (beforeEmission s).pc.pIdx.toNat (beforeEmission s) = .next { beforeEmission s with dm := d, draws := n } ∧
      t = advanceIndex { beforeEmission s with dm := d, draws := n } := by
  obtain ⟨m, hm, ht⟩ := andThen_eq_next h
  obtain ⟨d, n, rfl⟩ := emitPixel_next hm
  simp only [Host.Outcome.next.injEq] at ht
  exact ⟨d, n, hm, ht.symm⟩

/-- Alignment never leaves the frame (41_pixel_clock.md R100). -/
theorem alignIndex_pIdx_lt {s : State} (hn : 0 < s.cfg.n) (h : s.pc.pIdx.toNat < s.cfg.n) :
    (alignIndex s).pc.pIdx.toNat < s.cfg.n := by
  unfold alignIndex
  split_ifs
  · exact hn
  · exact h

/-- A tick completes where the pixel index is in the frame (20_memory.md R54). -/
theorem execEvTick_exists {s : State} (hn : 0 < s.cfg.n) (h : s.pc.pIdx.toNat < s.cfg.n) : ∃ t, execEvTick s = .next t := by
  have hp : (beforeEmission s).pc.pIdx.toNat < (beforeEmission s).cfg.n := by
    simp only [beforeEmission, arbitrate_pc, arbitrate_cfg, alignIndex_cfg]
    exact alignIndex_pIdx_lt hn h
  obtain ⟨d, n, he⟩ := emitPixel_exists hp
  exact ⟨_, by unfold execEvTick; simp only [beforeEmission] at he; simp only [he, andThen_next]; rfl⟩

/-- What steps 3 and 4 of a cycle can do (40_pulse_timer.md R75): the pixel timer, and a tick where it fired. -/
theorem pixelClockPart_next {s t : State} (h : pixelClockPart s = .next t) :
    ((pixelTimer s).wires.tick = false ∧ t = pixelTimer s) ∨
      ((pixelTimer s).wires.tick = true ∧ execEvTick (pixelTimer s) = .next t) := by
  unfold pixelClockPart at h
  change (if (pixelTimer s).wires.tick then exec .evTick (pixelTimer s) else .next (pixelTimer s)) = _ at h
  split_ifs at h with ht
  · exact .inr ⟨ht, h⟩
  · exact .inl ⟨Bool.not_eq_true _ ▸ ht, (Host.Outcome.next.inj h).symm⟩

/-- Steps 3 and 4 complete where the pixel index is in the frame. -/
theorem pixelClockPart_exists {s : State} (hn : 0 < s.cfg.n) (h : s.pc.pIdx.toNat < s.cfg.n) :
    ∃ t, pixelClockPart s = .next t := by
  have hp : (pixelTimer s).pc.pIdx = s.pc.pIdx := by
    rcases pixelTimer_cases s with ⟨-, h⟩ | ⟨-, -, h⟩ | ⟨-, -, -, h⟩ <;> simp [h]
  unfold pixelClockPart
  show ∃ t, (if (pixelTimer s).wires.tick then exec .evTick (pixelTimer s) else .next (pixelTimer s)) = .next t
  split_ifs
  · exact execEvTick_exists (by simpa using hn) (by rw [hp]; simpa using h)
  · exact ⟨_, rfl⟩

/-! The whole cycle. -/

/-- The state in which a cycle's parts start: ports driven, read data on the bus. -/
def cycleStart (s : State) : State := driveBus (busData (nextInput s).word s) (beginCycle s)

/-- The step of a launched, legally configured machine is its cycle (40_pulse_timer.md R75). -/
theorem step_eq_cycle {s : State} (hc : s.cfg.Legal) (hl : s.launched = true ∨ (nextInput s).rst = true) :
    step s = if (nextInput s).rst then .next (resetBlock (cycleStart s))
      else runningCycle (nextInput s) (cycleStart s) := by
  unfold step
  rw [if_pos hc, if_neg (by rcases hl with h | h <;> simp [h])]
  unfold cycleWith
  rw [startTransaction_beginCycle, andThen_next]
  rfl

/-- What a step can do (40_pulse_timer.md R75): a reset, or the parts of a running cycle one after another. -/
theorem step_next {s t : State} (h : step s = .next t) :
    s.cfg.Legal ∧ (s.launched = true ∨ (nextInput s).rst = true) ∧
      (((nextInput s).rst = true ∧ t = resetBlock (cycleStart s)) ∨
       ((nextInput s).rst = false ∧ ∃ p q,
          pulseTimerPart (synchronise (nextInput s).syncIn (cycleStart s)) = .next p ∧
          pixelClockPart p = .next q ∧ endTransaction (nextInput s).word q = .next t)) := by
  have hc : s.cfg.Legal := by
    by_contra hc
    rw [step, if_neg hc] at h
    cases h
  have hl : s.launched = true ∨ (nextInput s).rst = true := by
    by_contra hl
    rw [not_or] at hl
    rw [step, if_pos hc, if_pos (by simp [hl.1, hl.2])] at h
    cases h
  refine ⟨hc, hl, ?_⟩
  rw [step_eq_cycle hc hl] at h
  split_ifs at h with hr
  · exact .inl ⟨hr, (Host.Outcome.next.inj h).symm⟩
  · refine .inr ⟨Bool.not_eq_true _ ▸ hr, ?_⟩
    obtain ⟨p, hp, h⟩ := andThen_eq_next h
    obtain ⟨q, hq, h⟩ := andThen_eq_next h
    exact ⟨p, q, hp, hq, h⟩

end Sys2Proof.Machine
end

