-- ==== Sys2Proof/Laws/PerInstr.lean ====
section
/-! SUPPORT. FixedBits, one lemma per constructor: the canonical word of a transaction agrees with the row of
spec/opcode_table.json that bears its mnemonic on every bit the row fixes, and an event has no word. -/

namespace Sys2Proof

/-- The six fixed bits of a transaction word with SEL = 1, whatever its WDATA (30_encoding.md R64). -/
theorem busWord_and_fixedMask (sel we : Bool) (addr : BitVec 4) (wdata : Word) :
    busWord sel we addr wdata &&& 0x3F00000000#38 = busWord sel we addr 0 := by
  have hm : (0x3F00000000#38 : TxWord) = (0x3F#6 ++ 0#32 : BitVec (1 + 1 + 4 + 32)) := by decide
  rw [hm]
  unfold busWord
  rw [BitVec.and_append, BitVec.and_zero]
  congr 1
  exact BitVec.and_allOnes

/-- The instruction's canonical word selects the row of its mnemonic; an instruction without a word is none that
the bus can carry (30_encoding.md R68, R70). -/
def Laws.FixedBits.Statement (i : Instr) : Prop :=
  match encode i with
  | some w => i.wellFormed = true ∧ ∃ r ∈ opcodeRows, r.mnemonic = i.mnemonic ∧ r.selects w = true
  | none => i.wellFormed = false

/-- A write's word selects the row that fixes its six top bits. -/
theorem Laws.FixedBits.of_write {addr : BitVec 4} (r : OpcodeRow) (wdata : Word)
    (hm : r.mask = 0x3F00000000#38) (hf : r.fixed = busWord true true addr 0) :
    r.selects (busWord true true addr wdata) = true := by
  rw [OpcodeRow.selects, hm, busWord_and_fixedMask, hf, beq_self_eq_true]

theorem Laws.FixedBits.nop : Laws.FixedBits.Statement .nop := ⟨rfl, by decide⟩

theorem Laws.FixedBits.rdCtrl : Laws.FixedBits.Statement .rdCtrl := ⟨rfl, by decide⟩

theorem Laws.FixedBits.rdStatus : Laws.FixedBits.Statement .rdStatus := ⟨rfl, by decide⟩

theorem Laws.FixedBits.rdLoadptr : Laws.FixedBits.Statement .rdLoadptr := ⟨rfl, by decide⟩

theorem Laws.FixedBits.rdWoLoaddata : Laws.FixedBits.Statement .rdWoLoaddata := ⟨rfl, by decide⟩

theorem Laws.FixedBits.rdWoCmd : Laws.FixedBits.Statement .rdWoCmd := ⟨rfl, by decide⟩

theorem Laws.FixedBits.rdPeriod : Laws.FixedBits.Statement .rdPeriod := ⟨rfl, by decide⟩

theorem Laws.FixedBits.rdPixq : Laws.FixedBits.Statement .rdPixq := ⟨rfl, by decide⟩

theorem Laws.FixedBits.rdPixr : Laws.FixedBits.Statement .rdPixr := ⟨rfl, by decide⟩

theorem Laws.FixedBits.rdTarget : Laws.FixedBits.Statement .rdTarget := ⟨rfl, by decide⟩

theorem Laws.FixedBits.rdPixerr : Laws.FixedBits.Statement .rdPixerr := ⟨rfl, by decide⟩

theorem Laws.FixedBits.rdFps : Laws.FixedBits.Statement .rdFps := ⟨rfl, by decide⟩

theorem Laws.FixedBits.rdPos : Laws.FixedBits.Statement .rdPos := ⟨rfl, by decide⟩

theorem Laws.FixedBits.rdSwapcnt : Laws.FixedBits.Statement .rdSwapcnt := ⟨rfl, by decide⟩

theorem Laws.FixedBits.rdRevticks : Laws.FixedBits.Statement .rdRevticks := ⟨rfl, by decide⟩

theorem Laws.FixedBits.rdRsv14 : Laws.FixedBits.Statement .rdRsv14 := ⟨rfl, by decide⟩

theorem Laws.FixedBits.rdRsv15 : Laws.FixedBits.Statement .rdRsv15 := ⟨rfl, by decide⟩

theorem Laws.FixedBits.wrCtrl (wdata : Word) : Laws.FixedBits.Statement (.wrCtrl wdata) :=
  ⟨rfl, ⟨"WR.CTRL", 0x3000000000#38, 0x3F00000000#38⟩, by decide, rfl, Laws.FixedBits.of_write _ wdata rfl (by decide)⟩

theorem Laws.FixedBits.wrStatus (wdata : Word) : Laws.FixedBits.Statement (.wrStatus wdata) :=
  ⟨rfl, ⟨"WR.STATUS", 0x3100000000#38, 0x3F00000000#38⟩, by decide, rfl, Laws.FixedBits.of_write _ wdata rfl (by decide)⟩

theorem Laws.FixedBits.wrLoadptr (wdata : Word) : Laws.FixedBits.Statement (.wrLoadptr wdata) :=
  ⟨rfl, ⟨"WR.LOADPTR", 0x3200000000#38, 0x3F00000000#38⟩, by decide, rfl, Laws.FixedBits.of_write _ wdata rfl (by decide)⟩

theorem Laws.FixedBits.wrLoaddata (wdata : Word) : Laws.FixedBits.Statement (.wrLoaddata wdata) :=
  ⟨rfl, ⟨"WR.LOADDATA", 0x3300000000#38, 0x3F00000000#38⟩, by decide, rfl, Laws.FixedBits.of_write _ wdata rfl (by decide)⟩

theorem Laws.FixedBits.wrCmd (wdata : Word) : Laws.FixedBits.Statement (.wrCmd wdata) :=
  ⟨rfl, ⟨"WR.CMD", 0x3400000000#38, 0x3F00000000#38⟩, by decide, rfl, Laws.FixedBits.of_write _ wdata rfl (by decide)⟩

theorem Laws.FixedBits.wrRoPeriod (wdata : Word) : Laws.FixedBits.Statement (.wrRoPeriod wdata) :=
  ⟨rfl, ⟨"WR.RO.PERIOD", 0x3500000000#38, 0x3F00000000#38⟩, by decide, rfl, Laws.FixedBits.of_write _ wdata rfl (by decide)⟩

theorem Laws.FixedBits.wrRoPixq (wdata : Word) : Laws.FixedBits.Statement (.wrRoPixq wdata) :=
  ⟨rfl, ⟨"WR.RO.PIXQ", 0x3600000000#38, 0x3F00000000#38⟩, by decide, rfl, Laws.FixedBits.of_write _ wdata rfl (by decide)⟩

theorem Laws.FixedBits.wrRoPixr (wdata : Word) : Laws.FixedBits.Statement (.wrRoPixr wdata) :=
  ⟨rfl, ⟨"WR.RO.PIXR", 0x3700000000#38, 0x3F00000000#38⟩, by decide, rfl, Laws.FixedBits.of_write _ wdata rfl (by decide)⟩

theorem Laws.FixedBits.wrRoTarget (wdata : Word) : Laws.FixedBits.Statement (.wrRoTarget wdata) :=
  ⟨rfl, ⟨"WR.RO.TARGET", 0x3800000000#38, 0x3F00000000#38⟩, by decide, rfl, Laws.FixedBits.of_write _ wdata rfl (by decide)⟩

theorem Laws.FixedBits.wrRoPixerr (wdata : Word) : Laws.FixedBits.Statement (.wrRoPixerr wdata) :=
  ⟨rfl, ⟨"WR.RO.PIXERR", 0x3900000000#38, 0x3F00000000#38⟩, by decide, rfl, Laws.FixedBits.of_write _ wdata rfl (by decide)⟩

theorem Laws.FixedBits.wrRoFps (wdata : Word) : Laws.FixedBits.Statement (.wrRoFps wdata) :=
  ⟨rfl, ⟨"WR.RO.FPS", 0x3A00000000#38, 0x3F00000000#38⟩, by decide, rfl, Laws.FixedBits.of_write _ wdata rfl (by decide)⟩

theorem Laws.FixedBits.wrRoPos (wdata : Word) : Laws.FixedBits.Statement (.wrRoPos wdata) :=
  ⟨rfl, ⟨"WR.RO.POS", 0x3B00000000#38, 0x3F00000000#38⟩, by decide, rfl, Laws.FixedBits.of_write _ wdata rfl (by decide)⟩

theorem Laws.FixedBits.wrRoSwapcnt (wdata : Word) : Laws.FixedBits.Statement (.wrRoSwapcnt wdata) :=
  ⟨rfl, ⟨"WR.RO.SWAPCNT", 0x3C00000000#38, 0x3F00000000#38⟩, by decide, rfl, Laws.FixedBits.of_write _ wdata rfl (by decide)⟩

theorem Laws.FixedBits.wrRoRevticks (wdata : Word) : Laws.FixedBits.Statement (.wrRoRevticks wdata) :=
  ⟨rfl, ⟨"WR.RO.REVTICKS", 0x3D00000000#38, 0x3F00000000#38⟩, by decide, rfl, Laws.FixedBits.of_write _ wdata rfl (by decide)⟩

theorem Laws.FixedBits.wrRsv14 (wdata : Word) : Laws.FixedBits.Statement (.wrRsv14 wdata) :=
  ⟨rfl, ⟨"WR.RSV.RSV14", 0x3E00000000#38, 0x3F00000000#38⟩, by decide, rfl, Laws.FixedBits.of_write _ wdata rfl (by decide)⟩

theorem Laws.FixedBits.wrRsv15 (wdata : Word) : Laws.FixedBits.Statement (.wrRsv15 wdata) :=
  ⟨rfl, ⟨"WR.RSV.RSV15", 0x3F00000000#38, 0x3F00000000#38⟩, by decide, rfl, Laws.FixedBits.of_write _ wdata rfl (by decide)⟩

theorem Laws.FixedBits.evReset : Laws.FixedBits.Statement .evReset := rfl

theorem Laws.FixedBits.evPulseFirst : Laws.FixedBits.Statement .evPulseFirst := rfl

theorem Laws.FixedBits.evPulseShort : Laws.FixedBits.Statement .evPulseShort := rfl

theorem Laws.FixedBits.evPulseLong : Laws.FixedBits.Statement .evPulseLong := rfl

theorem Laws.FixedBits.evPulseAccept : Laws.FixedBits.Statement .evPulseAccept := rfl

theorem Laws.FixedBits.evElapse : Laws.FixedBits.Statement .evElapse := rfl

theorem Laws.FixedBits.evTimeout : Laws.FixedBits.Statement .evTimeout := rfl

theorem Laws.FixedBits.evTimer : Laws.FixedBits.Statement .evTimer := rfl

theorem Laws.FixedBits.evTick : Laws.FixedBits.Statement .evTick := rfl

end Sys2Proof
end

