-- ==== Sys2Proof/Tests/Slice0.lean ====
section
/-! SUPPORT. Tests of the model: ill-formed terms refused, words decoded, one-step vectors from spec/, and for every
statement with hypotheses a state and operands that meet them. Each vector's source stands in its comment. -/

namespace Sys2Proof.Tests

open Sys2Proof Sys2Proof.Machine

/-! ## Helpers -/

/-- The next state an outcome holds. -/
def nextOf (r : Result) : Option State :=
  match r with
  | .next t => some t
  | .fault _ => none
  | .refused _ => none

/-- What a view of the next state shows. -/
def after {α : Type} (r : Result) (view : State → α) : Option α := (nextOf r).map view

/-- The reset state of the small configuration (95_test_vectors.md section 0). -/
def small0 : State := State.resetOf Config.small

/-- The least legal configuration: two pixels, and every revolution two cycles. -/
def tiny : Config := { n := 2, fClk := 1, pMin := 2, pMax := 2, eMax := 0, phaseOffsetRst := 0, fpsShift := 0 }

/-- A state with one cycle's inputs listed. -/
def withIn (s : State) (rst y : Bool) (w : TxWord) : State := { s with inputs := [⟨rst, y, w⟩] }

/-- `n` cycles with no reset, no transaction and `sync_in` at 0. -/
def quiet (n : Nat) : List CycleInput := List.replicate n ⟨false, false, 0⟩

/-- An idle state in whose next cycle a pulse event comes, E cycles after the last one (40_pulse_timer.md R78, R82). -/
def edgeState (c : Config) (e : Word) (armed : Bool) : State :=
  { State.resetOf c with
    sync := ⟨false, true, false⟩, pt := { (State.resetOf c).pt with e := e, haveLast := armed } }

/-- The cells of frame FR1 of 95_test_vectors.md in slot 1. -/
def fr1 : Memory :=
  [(12, 10), (13, 20), (14, 30), (15, 40), (16, 50), (17, 60), (18, 63), (19, 64), (20, 255), (21, 0), (22, 1), (23, 2)]

/-- A live state of the small configuration: period 22, FR1 active in slot 1, the next tick emits pixel 2. -/
def live : State :=
  { small0 with
    sync := ⟨false, false, false⟩
    pt := { e := 6, haveLast := true, syncValid := true, period := 22, err := 0, fps := 372363, revTicks := 4 }
    pc := { t := 4, q := 5, r := 2, acc := 0, ctr := 1, tc := 2, pIdx := 2, aligned := true, phaseOffset := 0 }
    fs := { active := .slot1, ready := false, activeValid := true, swapCount := 1, loadPtr := 12 }
    store := fr1
    dm := { dacR := 40, dacG := 50, dacB := 60 }
    hb := { small0.hb with swapped := true } }

/-- A live state about to fire the alignment tick with a committed standby frame (95_test_vectors.md F1). -/
def committed : State :=
  { live with
    pc := { live.pc with tc := 0, pIdx := 3, aligned := false }
    fs := { active := .slot0, ready := true, activeValid := false, swapCount := 0, loadPtr := 12 }
    hb := small0.hb }

/-! ## Well-formedness: every check refuses an ill-formed term -/

theorem test_events_are_not_wellFormed :
    [Instr.evReset, .evPulseFirst, .evPulseShort, .evPulseLong, .evPulseAccept, .evElapse, .evTimeout, .evTimer,
      .evTick].all (fun i => !i.wellFormed) = true := by decide

theorem test_illegal_N_refused : ¬ Config.NLegal { Config.small with n := 1 } := by decide

theorem test_illegal_N_high_refused : ¬ Config.NLegal { Config.small with n := 65536 } := by decide

theorem test_illegal_F_CLK_refused : ¬ Config.FClkLegal { Config.small with fClk := 0 } := by decide

theorem test_illegal_P_MIN_refused : ¬ Config.PMinLegal { Config.small with pMin := 5 } := by decide

theorem test_illegal_P_MIN_over_P_MAX_refused : ¬ Config.PMinLegal { Config.small with pMin := 41 } := by decide

theorem test_illegal_P_MAX_refused : ¬ Config.PMaxLegal { Config.small with pMax := 4294967295 } := by decide

theorem test_illegal_E_MAX_refused : ¬ Config.EMaxLegal { Config.small with eMax := 4 } := by decide

theorem test_illegal_PHASE_OFFSET_RST_refused : ¬ Config.PhaseLegal { Config.small with phaseOffsetRst := 65536 } := by decide

theorem test_illegal_FPS_SHIFT_refused : ¬ Config.ShiftLegal { Config.small with fpsShift := 17 } := by decide

theorem test_both_configurations_legal : Config.defaults.Legal ∧ Config.small.Legal ∧ tiny.Legal := by decide

/-! ## Decoding: every transaction's word, written out from the table of 30_encoding.md R68 -/

theorem test_decode_nop : decode 0x0000000000#38 = .nop ∧ decode 0x1FFFFFFFFF#38 = .nop := by decide

theorem test_decode_rdCtrl : decode 0x2000000000#38 = .rdCtrl ∧ decode 0x20FFFFFFFF#38 = .rdCtrl := by decide

theorem test_decode_rdStatus : decode 0x2100000000#38 = .rdStatus ∧ decode 0x21FFFFFFFF#38 = .rdStatus := by decide

theorem test_decode_rdLoadptr : decode 0x2200000000#38 = .rdLoadptr ∧ decode 0x22FFFFFFFF#38 = .rdLoadptr := by decide

theorem test_decode_rdWoLoaddata : decode 0x2300000000#38 = .rdWoLoaddata ∧ decode 0x23FFFFFFFF#38 = .rdWoLoaddata := by decide

theorem test_decode_rdWoCmd : decode 0x2400000000#38 = .rdWoCmd ∧ decode 0x24FFFFFFFF#38 = .rdWoCmd := by decide

theorem test_decode_rdPeriod : decode 0x2500000000#38 = .rdPeriod ∧ decode 0x25FFFFFFFF#38 = .rdPeriod := by decide

theorem test_decode_rdPixq : decode 0x2600000000#38 = .rdPixq ∧ decode 0x26FFFFFFFF#38 = .rdPixq := by decide

theorem test_decode_rdPixr : decode 0x2700000000#38 = .rdPixr ∧ decode 0x27FFFFFFFF#38 = .rdPixr := by decide

theorem test_decode_rdTarget : decode 0x2800000000#38 = .rdTarget ∧ decode 0x28FFFFFFFF#38 = .rdTarget := by decide

theorem test_decode_rdPixerr : decode 0x2900000000#38 = .rdPixerr ∧ decode 0x29FFFFFFFF#38 = .rdPixerr := by decide

theorem test_decode_rdFps : decode 0x2A00000000#38 = .rdFps ∧ decode 0x2AFFFFFFFF#38 = .rdFps := by decide

theorem test_decode_rdPos : decode 0x2B00000000#38 = .rdPos ∧ decode 0x2BFFFFFFFF#38 = .rdPos := by decide

theorem test_decode_rdSwapcnt : decode 0x2C00000000#38 = .rdSwapcnt ∧ decode 0x2CFFFFFFFF#38 = .rdSwapcnt := by decide

theorem test_decode_rdRevticks : decode 0x2D00000000#38 = .rdRevticks ∧ decode 0x2DFFFFFFFF#38 = .rdRevticks := by decide

theorem test_decode_rdRsv14 : decode 0x2E00000000#38 = .rdRsv14 ∧ decode 0x2EFFFFFFFF#38 = .rdRsv14 := by decide

theorem test_decode_rdRsv15 : decode 0x2F00000000#38 = .rdRsv15 ∧ decode 0x2FFFFFFFFF#38 = .rdRsv15 := by decide

theorem test_decode_wrCtrl : decode 0x3089ABCDEF#38 = .wrCtrl 0x89ABCDEF := by decide

theorem test_decode_wrStatus : decode 0x3189ABCDEF#38 = .wrStatus 0x89ABCDEF := by decide

theorem test_decode_wrLoadptr : decode 0x3289ABCDEF#38 = .wrLoadptr 0x89ABCDEF := by decide

theorem test_decode_wrLoaddata : decode 0x3389ABCDEF#38 = .wrLoaddata 0x89ABCDEF := by decide

theorem test_decode_wrCmd : decode 0x3489ABCDEF#38 = .wrCmd 0x89ABCDEF := by decide

theorem test_decode_wrRoPeriod : decode 0x3589ABCDEF#38 = .wrRoPeriod 0x89ABCDEF := by decide

theorem test_decode_wrRoPixq : decode 0x3689ABCDEF#38 = .wrRoPixq 0x89ABCDEF := by decide

theorem test_decode_wrRoPixr : decode 0x3789ABCDEF#38 = .wrRoPixr 0x89ABCDEF := by decide

theorem test_decode_wrRoTarget : decode 0x3889ABCDEF#38 = .wrRoTarget 0x89ABCDEF := by decide

theorem test_decode_wrRoPixerr : decode 0x3989ABCDEF#38 = .wrRoPixerr 0x89ABCDEF := by decide

theorem test_decode_wrRoFps : decode 0x3A89ABCDEF#38 = .wrRoFps 0x89ABCDEF := by decide

theorem test_decode_wrRoPos : decode 0x3B89ABCDEF#38 = .wrRoPos 0x89ABCDEF := by decide

theorem test_decode_wrRoSwapcnt : decode 0x3C89ABCDEF#38 = .wrRoSwapcnt 0x89ABCDEF := by decide

theorem test_decode_wrRoRevticks : decode 0x3D89ABCDEF#38 = .wrRoRevticks 0x89ABCDEF := by decide

theorem test_decode_wrRsv14 : decode 0x3E89ABCDEF#38 = .wrRsv14 0x89ABCDEF := by decide

theorem test_decode_wrRsv15 : decode 0x3F89ABCDEF#38 = .wrRsv15 0x89ABCDEF := by decide

theorem test_decode_too_wide_rejected : decodeNat 0x4000000000 = .error .widerThanWord := by decide

theorem test_table_word : decodeTableWord 38 0x3400000001 = some (.wrCmd 1) := by decide

theorem test_encode_event_none : encode .evTick = none := by decide

/-! ## Reads: the examples of 44_host_bus.md and 95_test_vectors.md B7 -/

/-- 44_host_bus.md R127. -/
theorem test_nop : after (exec .nop live) (·.out.busRdata) = some 0 := by decide

/-- 44_host_bus.md R128. -/
theorem test_rdCtrl : after (exec .rdCtrl { live with pc := { live.pc with phaseOffset := 5 }, hb := { live.hb with swapIe := true, faultIe := true } }) (·.out.busRdata) = some 0x30005 := by decide

/-- 44_host_bus.md R130. -/
theorem test_rdStatus : after (exec .rdStatus live) (·.out.busRdata) = some 0x13D := by decide

/-- 10_state.md R34. -/
theorem test_rdStatus_flags : after (exec .rdStatus { live with fs := { live.fs with ready := true }, hb := { small0.hb with fShort := true, fLong := true, fTimeout := true, fLoadOvf := true } }) (·.out.busRdata) = some 0x1E3F := by decide

/-- 44_host_bus.md R132. -/
theorem test_rdLoadptr : after (exec .rdLoadptr live) (·.out.busRdata) = some 12 := by decide

/-- 44_host_bus.md R133. -/
theorem test_rdWoLoaddata : after (exec .rdWoLoaddata live) (·.out.busRdata) = some 0 := by decide

/-- 44_host_bus.md R133. -/
theorem test_rdWoCmd : after (exec .rdWoCmd live) (·.out.busRdata) = some 0 := by decide

/-- 44_host_bus.md R134. -/
theorem test_rdPeriod : after (exec .rdPeriod { live with pt := { live.pt with period := 33000 } }) (·.out.busRdata) = some 0x80E8 := by decide

/-- 44_host_bus.md R135. -/
theorem test_rdPixq : after (exec .rdPixq { live with pc := { live.pc with q := 32 } }) (·.out.busRdata) = some 32 := by decide

/-- 44_host_bus.md R136. -/
theorem test_rdPixr : after (exec .rdPixr { live with pc := { live.pc with r := 232 } }) (·.out.busRdata) = some 232 := by decide

/-- 44_host_bus.md R137. -/
theorem test_rdTarget : after (exec .rdTarget { live with pc := { live.pc with t := 1029 } }) (·.out.busRdata) = some 1029 := by decide

/-- 44_host_bus.md R138. -/
theorem test_rdPixerr : after (exec .rdPixerr { live with pt := { live.pt with err := BitVec.ofInt 32 (-3) } }) (·.out.busRdata) = some 0xFFFFFFFD := by decide

/-- 44_host_bus.md R139. -/
theorem test_rdFps : after (exec .rdFps { live with pt := { live.pt with fps := 1985932 } }) (·.out.busRdata) = some 0x1E4D8C := by decide

/-- 44_host_bus.md R140. -/
theorem test_rdPos : after (exec .rdPos live) (·.out.busRdata) = some 0x00020002 := by decide

/-- 95_test_vectors.md B7. -/
theorem test_rdPos_saturated : after (exec .rdPos { live with pc := { live.pc with tc := 70000 } }) (·.out.busRdata) = some 0xFFFF0002 := by decide

/-- 44_host_bus.md R141. -/
theorem test_rdSwapcnt : after (exec .rdSwapcnt live) (·.out.busRdata) = some 1 := by decide

/-- 44_host_bus.md R142. -/
theorem test_rdRevticks : after (exec .rdRevticks { live with pt := { live.pt with revTicks := 1024 } }) (·.out.busRdata) = some 1024 := by decide

/-- 44_host_bus.md R144. -/
theorem test_rdRsv14 : after (exec .rdRsv14 live) (·.out.busRdata) = some 0 := by decide

/-- 44_host_bus.md R144. -/
theorem test_rdRsv15 : after (exec .rdRsv15 live) (·.out.busRdata) = some 0 := by decide

/-! ## Writes -/

/-- 44_host_bus.md R129: `WR CTRL, 0x1_0003`. -/
theorem test_wrCtrl : after (exec (.wrCtrl 0x10003) live)
    (fun t => (t.pc.phaseOffset, t.hb.swapIe, t.hb.faultIe)) = some (3, true, false) := by decide

/-- 44_host_bus.md R131: `ACKSWAP` with SWAPPED and F_SHORT set. -/
theorem test_wrStatus : after (exec (.wrStatus 0x100) { live with hb := { live.hb with fShort := true } })
    (fun t => (t.hb.swapped, t.hb.fShort)) = some (false, true) := by decide

/-- 60_exceptions.md R153 "set wins", 95_test_vectors.md B4. -/
theorem test_wrStatus_set_wins : after
    (exec (.wrStatus 0x1F00) { live with wires := { CycleWires.clear with setmask := 0x100 } })
    (·.hb.swapped) = some true := by decide

/-- 42_frame_store.md R110. -/
theorem test_wrLoadptr : after (exec (.wrLoadptr 0xFFFFF) live) (·.fs.loadPtr) = some 0x3FFFF := by decide

/-- 42_frame_store.md R111: `WR LOADDATA, 0x1FF` with ACTIVE = 0, LOAD_PTR = 5. -/
theorem test_wrLoaddata : after
    (exec (.wrLoaddata 0x1FF) { small0 with fs := { small0.fs with loadPtr := 5, ready := true } })
    (fun t => (slotByte t .slot1 5, t.fs.loadPtr, t.fs.ready)) = some (some 0xFF, 6, false) := by decide

/-- 95_test_vectors.md B3: LOAD_PTR = 3N. -/
theorem test_wrLoaddata_overflow : after (exec (.wrLoaddata 7) { live with fs := { live.fs with ready := true } })
    (fun t => (t.hb.fLoadOvf, t.fs.loadPtr, t.fs.ready, t.store == fr1)) = some (true, 12, true, true) := by decide

/-- 42_frame_store.md R112. -/
theorem test_wrCmd : after (exec (.wrCmd 1) live) (·.fs.ready) = some true ∧
    after (exec (.wrCmd 0xFFFFFFFE) live) (·.fs.ready) = some false := by decide

theorem test_wrRoPeriod_ignored : nextOf (exec (.wrRoPeriod 0xFFFFFFFF) live) = some live := by decide

theorem test_wrRoPixq_ignored : nextOf (exec (.wrRoPixq 0xFFFFFFFF) live) = some live := by decide

theorem test_wrRoPixr_ignored : nextOf (exec (.wrRoPixr 0xFFFFFFFF) live) = some live := by decide

theorem test_wrRoTarget_ignored : nextOf (exec (.wrRoTarget 0xFFFFFFFF) live) = some live := by decide

theorem test_wrRoPixerr_ignored : nextOf (exec (.wrRoPixerr 0xFFFFFFFF) live) = some live := by decide

theorem test_wrRoFps_ignored : nextOf (exec (.wrRoFps 0xFFFFFFFF) live) = some live := by decide

theorem test_wrRoPos_ignored : nextOf (exec (.wrRoPos 0xFFFFFFFF) live) = some live := by decide

theorem test_wrRoSwapcnt_ignored : nextOf (exec (.wrRoSwapcnt 0xFFFFFFFF) live) = some live := by decide

theorem test_wrRoRevticks_ignored : nextOf (exec (.wrRoRevticks 0xFFFFFFFF) live) = some live := by decide

theorem test_wrRsv14_ignored : nextOf (exec (.wrRsv14 0xFFFFFFFF) live) = some live := by decide

theorem test_wrRsv15_ignored : nextOf (exec (.wrRsv15 0xFFFFFFFF) live) = some live := by decide

/-! ## Events -/

/-- 70_reset_and_hazards.md R166: TARGET reads N, CTRL reads PHASE_OFFSET_RST, the store stays. -/
theorem test_evReset : after (exec .evReset { live with cfg := { Config.small with phaseOffsetRst := 3 } })
    (fun t => (t.pc.t, t.pc.phaseOffset, t.dm == blankDac, t.store == fr1)) = some (4, 3, true, true) := by decide

/-- 95_test_vectors.md P5. -/
theorem test_evPulseFirst : after (exec .evPulseFirst { small0 with pt := { small0.pt with e := 19 } })
    (fun t => (t.pt.haveLast, t.pt.e, t.pt.syncValid)) = some (true, 0, false) := by decide

/-- 95_test_vectors.md P1: the second pulse 7 cycles after the first, STATUS = 0x220. -/
theorem test_evPulseShort : after (step (withIn (edgeState Config.small 6 true) false false 0))
    (fun t => (statusWord t, t.pt.period)) = some (0x220, 0) := by decide

/-- 95_test_vectors.md P4: the second pulse 41 cycles after the first, STATUS = 0x420. -/
theorem test_evPulseLong : after (step (withIn (edgeState Config.small 40 true) false false 0))
    (fun t => (statusWord t, t.pt.fps)) = some (0x420, 0) := by decide

/-- 95_test_vectors.md P2: P = 8 is accepted; STATUS = 0x31. -/
theorem test_evPulseAccept : after (step (withIn (edgeState Config.small 7 true) false false 0))
    (fun t => (t.pc.t, t.pc.q, t.pc.r, t.pt.fps, statusWord t)) = some (4, 2, 0, 1024000, 0x31) := by decide

/-- 95_test_vectors.md A4: live, ERR = 0, TC_old = 5, P = 26. -/
theorem test_evPulseAccept_drift : after
    (exec .evPulseAccept { live with pt := { live.pt with e := 25 }, pc := { live.pc with tc := 5 } })
    (fun t => (t.pt.err.toInt, t.pc.t, t.pc.q, t.pc.r)) = some (-1, 3, 8, 2) := by decide

/-- 95_test_vectors.md A10 and A12: asr rounds down, ERR saturates. -/
theorem test_fps_and_err_corners : smoothFps Config.small 2978909 26 = 2921622 ∧
    (errUpdate true 0 { live with pt := { live.pt with err := 0x7FFFFFFF } }).pt.err = 0x7FFFFFFF := by decide

/-- 40_pulse_timer.md R80: E saturates at 2^32 − 1. -/
theorem test_evElapse : after (exec .evElapse { small0 with pt := { small0.pt with e := 0xFFFFFFFF } }) (·.pt.e) =
    some 0xFFFFFFFF := by decide

/-- 95_test_vectors.md T5: the timeout comes when E passes 40, and not before. -/
theorem test_evElapse_timeout :
    after (exec .evElapse { live with pt := { live.pt with e := 39 } }) (·.pt.syncValid) = some true ∧
    after (exec .evElapse { live with pt := { live.pt with e := 40 } })
      (fun t => (t.pt.e, t.pt.syncValid, t.hb.fTimeout)) = some (41, false, true) := by decide

/-- 40_pulse_timer.md R81. -/
theorem test_evTimeout : after (exec .evTimeout live)
    (fun t => (t.hb.fTimeout, t.pc.aligned, t.dm == blankDac, t.pc.pIdx)) = some (true, false, true, 2) := by decide

/-- 95_test_vectors.md T3: Q = 5, R = 2, T = 4: intervals 5 (ACC 2), then 6 (ACC 0). -/
theorem test_evTimer : after (exec .evTimer live) (fun t => (t.wires.tick, t.pc.ctr, t.pc.acc)) = some (true, 5, 2) ∧
    after (exec .evTimer { live with pc := { live.pc with acc := 2 } })
      (fun t => (t.wires.tick, t.pc.ctr, t.pc.acc)) = some (true, 6, 0) := by decide

/-- 41_pixel_clock.md R93: a countdown, and idle. -/
theorem test_evTimer_no_tick :
    after (exec .evTimer { live with pc := { live.pc with ctr := 2 } }) (fun t => (t.wires.tick, t.pc.ctr)) =
      some (false, 1) ∧
    after (exec .evTimer small0) (fun t => (t.wires.tick, t.pc.ctr)) = some (false, 0) := by decide

/-- 95_test_vectors.md F1: pixel 2 of FR1, bytes 63, 64, 255. -/
theorem test_evTick : after (exec .evTick live)
    (fun t => (t.dm.dacR, t.dm.dacG, t.dm.dacB, t.pc.pIdx, t.pc.tc)) = some (63, 63, 63, 3, 3) := by decide

/-- 95_test_vectors.md program 1, cycle 42: alignment, swap, and pixel 0 of the new active slot. -/
theorem test_evTick_swap : after (exec .evTick committed)
    (fun t => (t.dm.dacR, t.dm.dacG, t.dm.dacB, t.pc.pIdx, t.fs.active)) = some (10, 20, 30, 1, .slot1) ∧
    after (exec .evTick committed) (fun t => (t.fs.ready, t.fs.swapCount, t.hb.swapped)) = some (false, 1, true) := by
  decide

/-- The clamp table of 95_test_vectors.md section 2.5. -/
theorem test_clamp6 : [0, 62, 63, 64, 128, 255].map clamp6 = [0, 62, 63, 63, 63, 63] := by decide

/-! ## Cycles -/

/-- 95_test_vectors.md B5: in a reset cycle a write is dropped, and a read returns S_c. -/
theorem test_reset_cycle_bus : after (step (withIn small0 true false 0x3000000007#38)) (·.pc.phaseOffset) = some 0 ∧
    after (step (withIn { small0 with pc := { small0.pc with phaseOffset := 9 } } true false 0x2000000000#38))
      (fun t => (t.out.busRdata, t.pc.phaseOffset)) = some (9, 0) := by decide

/-- 95_test_vectors.md RS2 and 93_implementation_defined.md P8. -/
theorem test_refusals : nextOf (step (withIn (State.powerUp small0) false false 0)) = none ∧
    nextOf (step (withIn { small0 with cfg := { Config.small with n := 1 } } true false 0)) = none := by decide

/-- The word `WR CTRL, 0x3_0005` placed for the fetch runs as the first transaction after reset. -/
theorem test_withFetchWord : after (step (State.reset.withFetchWord 38 0x3000030005))
    (fun t => (t.pc.phaseOffset, t.hb.swapIe, t.hb.faultIe)) = some (5, true, true) := by decide

/-- 30_encoding.md R73, R74: a statement's text and a pseudo-instruction's expansion. -/
theorem test_assembler : parseLine "go: WR CTRL, 0x1_0003 | FAULT_IE ; start".toList = some (.wr 0x0 0x30003) ∧
    expandPseudo (.putpix 10 20 30) = [.wr 0x3 10, .wr 0x3 20, .wr 0x3 30] := by decide

/-! ## Witnesses: for each statement with hypotheses, a state and operands that meet them -/

/-- A reset state with a chosen pulse history meets the invariant. -/
theorem stateInv_edgeState (c : Config) (e : Word) (armed : Bool) (ht : c.n < 2 ^ 17) (hc : c.Legal) :
    StateInv (edgeState c e armed) := by
  obtain ⟨⟨hn, -⟩, -, -, -, he, -⟩ := id hc
  have he : c.eMax + 1 ≤ c.n := he
  have hT : (edgeState c e armed).pc.t.toNat = c.n := by
    show (BitVec.ofNat 17 c.n).toNat = c.n
    rw [BitVec.toNat_ofNat, Nat.mod_eq_of_lt ht]
  have hz : ∀ k : Nat, (0 : BitVec k).toNat = 0 := fun k => by simp
  refine ⟨hc, rfl, ⟨?_, ?_, ?_, ?_, ?_, ?_, ?_, ?_, ?_, fun _ => rfl, fun _ => rfl, ?_⟩, ?_, ?_, .inl rfl, ?_, ?_, rfl, rfl⟩
  all_goals try rw [hT]
  all_goals try (intro h; cases h; done)
  all_goals simp only [edgeState, State.resetOf, hz]
  all_goals first | omega | simp

/-- The live state meets the invariant. -/
theorem stateInv_live : StateInv live :=
  ⟨by decide, rfl,
    ⟨by decide, by decide, by decide, by decide, by decide, by decide, by decide, by decide, by decide, by decide,
      by decide, by decide⟩,
    by decide, by decide, by decide, by decide, by decide, by decide, by decide⟩

/-- The inputs of a state do not matter to the invariant. -/
theorem stateInv_inputs {s : State} (h : StateInv s) (ins : List CycleInput) : StateInv { s with inputs := ins } := by
  obtain ⟨h1, h2, ⟨f1, f2, f3, f4, f5, f6, f7, f8, f9, f10, f11, f12⟩, h3, h4, h5, h6, h7, h8, h9⟩ := h
  exact ⟨h1, h2, ⟨f1, f2, f3, f4, f5, f6, f7, f8, f9, f10, f11, f12⟩, h3, h4, h5, h6, h7, h8, h9⟩

theorem witness_DecodeAfterEncodeIsIdentity : (Instr.wrCtrl 0x3FFFF).wellFormed = true := by decide

theorem witness_WordWithSelZeroIsNop : (0x1FFFFFFFFF#38).getLsbD 37 = false := by decide

theorem witness_ReadAndWriteWordsOfAnAddress :
    ((0x2FFFFFFFFF#38).getLsbD 37 = true ∧ (0x2FFFFFFFFF#38).getLsbD 36 = false) ∧
      (0x3400000001#38).getLsbD 37 = true ∧ (0x3400000001#38).getLsbD 36 = true := by decide

/-- A read and a write, each with and without reset. -/
theorem witness_StepRunsPresentedTransaction : ∀ rst : Bool, ∀ w ∈ [0x2100000000#38, 0x3400000001#38],
    ∃ (s : State) (i : Instr) (y : Bool) (rest : List CycleInput), s.cfg.Legal ∧ s.launched = true ∧
      s.inputs = { rst := rst, syncIn := y, word := w } :: rest ∧ decode w = i :=
  fun rst w _ => ⟨withIn live rst false w, decode w, false, [], (by decide : live.cfg.Legal), rfl, rfl, rfl⟩

theorem witness_IllegalConfigurationIsRefused : ¬({ Config.small with n := 1 } : Config).Legal := by decide

theorem witness_RunMustStartWithReset : ∀ rst : Bool, ∃ s : State, s.cfg.Legal ∧ s.launched = false ∧
    (nextInput s).rst = rst :=
  fun rst => ⟨withIn (State.powerUp live) rst false 0, (by decide : live.cfg.Legal), rfl, rfl⟩

theorem witness_ResetGivesTheTableValues : live.cfg.Legal := by decide

theorem witness_ResetCycleOnlyResets : ∃ s : State, s.cfg.Legal ∧ (nextInput s).rst = true :=
  ⟨withIn live true true 0x2000000000#38, by decide, rfl⟩

theorem witness_ResetStatesMeetTheInvariant : Config.small.Legal := by decide

/-- Four cycles' inputs, for a rising edge and for none; and a pulse event followed by another cycle. -/
theorem witness_PulseEventTwoCyclesAfterEdge :
    (∀ x0 x1 : Bool, ∃ s, StateInv s ∧
      s.inputs = { rst := false, syncIn := x0, word := 0 } :: { rst := false, syncIn := x1, word := 0 } ::
        { rst := false, syncIn := false, word := 0 } :: { rst := false, syncIn := false, word := 0 } :: []) ∧
    ∃ s t u : State, step s = .next t ∧ t.wires.pulse = true ∧ step t = .next u :=
  ⟨fun _ _ => ⟨_, stateInv_inputs stateInv_live _, rfl⟩,
    { edgeState tiny 1 true with inputs := quiet 2 }, _, _, rfl, rfl, rfl⟩

theorem witness_AcceptedPulseRetimesThePixelClock :
    live.cfg.Legal ∧ 7 = min (live.pt.e.toNat + 1) (2 ^ 32 - 1) := by decide

theorem witness_FpsEstimateStaysBetween : Config.small.Legal ∧ tiny.Legal ∧ tiny.fpsShift = 0 := by decide

theorem witness_SaturatedElapsedIsLong : ∃ s : State, s.cfg.Legal ∧ s.pt.e.toNat = 2 ^ 32 - 1 ∧ s.pt.haveLast = true :=
  ⟨edgeState Config.small 0xFFFFFFFF true, by decide, by decide, rfl⟩

/-- A first pulse, and measured periods P_MIN − 1, P_MIN, P_MAX, P_MAX + 1: every clause, at its boundaries. -/
theorem witness_PulseCycleHasOneClass : ∀ e ∈ [6, 7, 39, 40], ∀ armed : Bool, ∃ s : State, StateInv s ∧
    (nextInput s).rst = false ∧ s.sync.syncQ = true ∧ s.sync.syncPrev = false ∧ s.pt.haveLast = armed ∧
      s.pt.e = BitVec.ofNat 32 e ∧ s.cfg.pMin = 8 ∧ s.cfg.pMax = 40 :=
  fun e _ armed => ⟨withIn (edgeState Config.small (BitVec.ofNat 32 e) armed) false false 0,
    stateInv_inputs (stateInv_edgeState _ _ _ (by decide) (by decide)) _, rfl, rfl, rfl, rfl, rfl, rfl, rfl⟩

/-- A state whose next cycle accepts a pulse, and then four quiet cycles; its P_MAX is 2. -/
def acceptThenQuiet : State := { edgeState tiny 1 true with inputs := quiet 5 }

theorem stateInv_acceptThenQuiet : StateInv acceptThenQuiet :=
  stateInv_inputs (stateInv_edgeState tiny 1 true (by decide) (by decide)) _

/-- The first cycle (k = 0), the last cycle of the window (k = P_MAX = 2), the timeout cycle (k = P_MAX + 1) and the
cycle after it (k = P_MAX + 2). -/
theorem witness_TimeoutComesAfterTheWindow :
    ∃ c, step acceptThenQuiet = .next c ∧ c.wires.accepted = true ∧ c.cfg.pMax = 2 ∧
      (∃ t, quietRun 0 c t) ∧ (∃ t, quietRun 2 c t) ∧ (∃ t u, quietRun 3 c t ∧ step t = .next u) ∧
        ∃ t, quietRun 4 c t :=
  ⟨_, rfl, rfl, rfl, ⟨_, rfl⟩, ⟨_, _, rfl, rfl, rfl, _, rfl, rfl, rfl, rfl⟩,
    ⟨_, _, ⟨_, rfl, rfl, rfl, _, rfl, rfl, rfl, _, rfl, rfl, rfl, rfl⟩, rfl⟩,
    ⟨_, _, rfl, rfl, rfl, _, rfl, rfl, rfl, _, rfl, rfl, rfl, _, rfl, rfl, rfl, rfl⟩⟩

/-- Every clause, with ACC + R = T − 1 and = T, and CTR at 0, 1 and 2. -/
theorem witness_PixelTimerFiresHoldsOrCounts :
    (∀ acc ∈ [1, 2], acc < live.pc.t.toNat ∧ live.pc.r.toNat < live.pc.t.toNat ∧ live.pc.q.toNat < 2 ^ 32 - 1) ∧
      (live.pt.syncValid = true ∧ live.pc.ctr.toNat ≤ 1) ∧
      (small0.wires.accepted = false ∧ small0.pt.syncValid = false ∧ small0.pc.acc.toNat < small0.pc.t.toNat ∧
        small0.pc.r.toNat < small0.pc.t.toNat ∧ small0.pc.q.toNat < 2 ^ 32 - 1) ∧
      1 < ({ live.pc with ctr := 2 } : PixelClock).ctr.toNat := by decide

theorem witness_IntervalsSumToTheFloorLaw :
    live.pc.acc = 0 ∧ live.pc.r.toNat < live.pc.t.toNat ∧ live.pc.q.toNat < 2 ^ 32 - 1 := by decide

/-- The pulse cycle (m = 0) and the last cycle of the window (m = P_MAX). -/
theorem witness_TicksFallAtFloorTimes :
    ∃ c, step acceptThenQuiet = .next c ∧ c.wires.accepted = true ∧ 2 ≤ c.cfg.pMax ∧ (∃ t, quietRun 0 c t) ∧
      ∃ t, quietRun 2 c t :=
  ⟨_, rfl, rfl, by decide, ⟨_, rfl⟩, ⟨_, _, rfl, rfl, rfl, _, rfl, rfl, rfl, rfl⟩⟩

theorem witness_TickCountIsCeilingOfRatio :
    ∃ c, step acceptThenQuiet = .next c ∧ c.wires.accepted = true ∧ 1 + 1 ≤ c.cfg.pMax ∧ ∃ t, quietRun 1 c t :=
  ⟨_, rfl, rfl, by decide, ⟨_, _, rfl, rfl, rfl, rfl⟩⟩

theorem witness_SteadyPeriodEmitsExactlyN : ∃ s c t u : State, StateInv s ∧ step s = .next c ∧
    c.wires.accepted = true ∧ c.pt.err = 0 ∧ quietRun (c.pt.period.toNat - 1) c t ∧ step t = .next u ∧
      (nextInput t).rst = false ∧ u.wires.pulse = true :=
  ⟨{ edgeState tiny 1 true with inputs := ⟨false, true, 0⟩ :: quiet 2 }, _, _, _,
    stateInv_inputs (stateInv_edgeState tiny 1 true (by decide) (by decide)) _, rfl, rfl, rfl,
    ⟨_, rfl, rfl, rfl, rfl⟩, rfl, rfl, rfl⟩

/-- The first and the last index of the frame, with and without the alignment and the swap. -/
theorem witness_TickAlignsSwapsAndAdvances : live.cfg.Legal ∧ (∀ p ∈ [0, 3], p < live.cfg.n) ∧
    tickSwaps live = false ∧ tickSwaps committed = true ∧ committed.pc.pIdx.toNat < committed.cfg.n := by decide

/-- A steady run with PHASE_OFFSET = 1 of two pixels: an accepted pulse while the host writes PHASE_OFFSET, the
alignment at index 0 one tick later, a second pulse event, and one more tick. -/
def steadyFrames : State :=
  { edgeState tiny 1 true with
    pc := { (edgeState tiny 1 true).pc with pIdx := 1, phaseOffset := 7 }
    inputs := ⟨false, true, 0x3000000001⟩ :: quiet 3 }

theorem stateInv_steadyFrames : StateInv steadyFrames := by
  obtain ⟨h1, h2, ⟨-, f2, f3, f4, f5, f6, f7, f8, f9, f10, f11, f12⟩, h3, h4, h5, h6, h7, h8, h9⟩ :=
    stateInv_edgeState tiny 1 true (by decide) (by decide)
  exact ⟨h1, h2, ⟨by decide, f2, f3, f4, f5, f6, f7, f8, f9, f10, f11, f12⟩, h3, h4, h5, h6, h7, h8, h9⟩

/-- Three ticks with two pulse events and a PHASE_OFFSET write among them, and an aligned tick after them; and ticks
of EV.TICK alone. -/
theorem witness_IndexWrapsOnceInNTicks :
    (∃ t u : State, frameRun 3 3 steadyFrames t ∧ step t = .next u ∧ t.pc.aligned = true ∧ u.wires.tick = true ∧
      realigns t u = false) ∧
    ∃ s : State, s.cfg.Legal ∧ s.pc.pIdx = 0 ∧
      ∀ j, 0 < j → j < s.cfg.n → s.pc.phaseOffset.toNat ≠ s.pc.tc.toNat + j :=
  ⟨⟨_, _, ⟨_, 2, rfl, rfl, rfl, rfl, rfl, _, 1, rfl, rfl, rfl, rfl, rfl, _, 0, rfl, rfl, rfl, rfl, rfl, rfl, rfl⟩,
      rfl, rfl, rfl, rfl⟩,
    small0, by decide, rfl, fun j hj _ => by
      show 0 ≠ 0 + j
      omega⟩

/-- No edge because SYNC_Q = 0, and because SYNC_PREV = 1. -/
theorem witness_IdleCycleHoldsThePixelClock : ∀ q : Bool, ∃ s : State, StateInv s ∧ (nextInput s).rst = false ∧
    s.pt.syncValid = false ∧ (s.sync.syncQ = q ∧ (s.sync.syncQ = false ∨ s.sync.syncPrev = true)) := by
  intro q
  have h := stateInv_edgeState Config.small 5 true (by decide) (by decide)
  obtain ⟨h1, h2, ⟨f1, f2, f3, f4, f5, f6, f7, f8, f9, f10, f11, f12⟩, h3, h4, h5, h6, h7, h8, h9⟩ := h
  exact ⟨{ withIn (edgeState Config.small 5 true) false false 0 with sync := ⟨false, q, true⟩ },
    ⟨h1, h2, ⟨f1, f2, f3, f4, f5, f6, f7, f8, f9, f10, f11, f12⟩, h3, h4, h5, h6, h7, h8, h9⟩, rfl, rfl, rfl, .inr rfl⟩

/-- A swapped-in slot's pixel 0 and the last pixel of an active slot. -/
theorem witness_EmissionIsTheClampedStoredPixel :
    (committed.cfg.Legal ∧ committed.pc.pIdx.toNat < committed.cfg.n ∧ tickAligned committed = true ∧
      tickSwaps committed = true ∧ slotByte committed (tickSlot committed) (3 * tickIndex committed) = some 10 ∧
      slotByte committed (tickSlot committed) (3 * tickIndex committed + 1) = some 20 ∧
      slotByte committed (tickSlot committed) (3 * tickIndex committed + 2) = some 30) ∧
    tickAligned live = true ∧ live.fs.activeValid = true ∧ slotByte live (tickSlot live) 11 = some 2 := by decide

/-- A pixel whose green byte is written and whose red and blue bytes are ⊥. -/
theorem witness_UnwrittenByteIsAFreshDraw : ∃ s : State, s.cfg.Legal ∧ s.pc.pIdx.toNat < s.cfg.n ∧
    tickAligned s = true ∧ s.fs.activeValid = true ∧ slotByte s (tickSlot s) (3 * tickIndex s) = none ∧
      slotByte s (tickSlot s) (3 * tickIndex s + 1) = some 64 ∧ slotByte s (tickSlot s) (3 * tickIndex s + 2) = none :=
  ⟨{ live with store := [(19, 64)] }, by decide, by decide, by decide, rfl, by decide, by decide, by decide⟩

/-- An unaligned tick, and an aligned tick before the first swap. -/
theorem witness_BlankUntilAlignedAndSwapped :
    (∃ s : State, s.cfg.Legal ∧ s.pc.pIdx.toNat < s.cfg.n ∧ tickAligned s = false) ∧
      ∃ s : State, s.cfg.Legal ∧ s.pc.pIdx.toNat < s.cfg.n ∧ s.fs.activeValid = false ∧ tickSwaps s = false :=
  ⟨⟨{ live with pc := { live.pc with aligned := false } }, by decide, by decide, by decide⟩,
    ⟨small0, by decide, by decide, rfl, by decide⟩⟩

/-- A store that differs in the standby slot only. -/
theorem witness_EmissionNeverReadsStandby : ∃ t, exec .evTick live = .next t ∧
    ∀ o, slotByte { live with store := (0, 7) :: fr1 } t.fs.active o = slotByte live t.fs.active o := by
  refine ⟨_, rfl, fun o => ?_⟩
  show slotByte { live with store := (0, 7) :: fr1 } .slot1 o = slotByte live .slot1 o
  unfold slotByte cellAddress
  show (match (if o < 12 then some (1 * 12 + o) else none) with
      | some a => Memory.read ((0, 7) :: fr1) a
      | none => none) =
    (match (if o < 12 then some (1 * 12 + o) else none) with
      | some a => Memory.read fr1 a
      | none => none)
  split_ifs
  · exact if_neg (by omega)
  · rfl

/-- A frame start with and without a commit, and a cycle with no frame start. -/
theorem witness_SwapIsWholeAndOnlyAtCommittedFrameStart :
    (∃ t, step (withIn committed false false 0) = .next t ∧ t.wires.frameStart = true ∧ committed.fs.ready = true) ∧
      (∃ t, step (withIn { committed with fs := { committed.fs with ready := false } } false false 0) = .next t ∧
        t.wires.frameStart = true) ∧
      ∃ t, step (withIn live false false 0) = .next t ∧ t.wires.frameStart = false :=
  ⟨⟨_, rfl, rfl, rfl⟩, ⟨_, rfl, rfl⟩, ⟨_, rfl, rfl⟩⟩

/-- LOAD_PTR = 3N − 1 and LOAD_PTR = 3N. -/
theorem witness_WrLoaddataFillsStandbyOrFaults : live.cfg.Legal ∧
    ({ live.fs with loadPtr := 11 } : FrameArbiter).loadPtr.toNat < 3 * live.cfg.n ∧
      3 * live.cfg.n ≤ live.fs.loadPtr.toNat := by decide

theorem witness_WrCmdCommits : (1 : Word).getLsbD 0 = true ∧ (0xFFFFFFFE : Word).getLsbD 0 = false := by decide

theorem witness_TransactionsKeepTheActiveSlot : ∃ t, (Instr.wrLoaddata 5).isTransaction = true ∧
    exec (.wrLoaddata 5) { live with fs := { live.fs with loadPtr := 0 } } = .next t :=
  ⟨_, rfl, rfl⟩

/-- The step of a cycle that presents WR.LOADDATA. -/
theorem witness_StoreChangesOnlyByLoaddata : ∃ t, step (withIn small0 false false 0x3300000005#38) = .next t ∧
    t.store = [(12, 5)] :=
  ⟨_, rfl, by decide⟩

/-- The idle least block with LOADFRAME of two pixels in its next eight cycles. -/
def loading : State :=
  { edgeState tiny 1 false with inputs := fillInputs (List.replicate 8 false) [1, 2, 3, 64, 0x1FF, 6] ++ [] }

theorem loading_ends : ∃ t, runCycles 8 loading = .next t := by
  have h : (nextOf (runCycles 8 loading)).isSome = true := by decide
  cases hr : runCycles 8 loading with
  | next t => exact ⟨t, rfl⟩
  | fault f => rw [hr] at h; cases h
  | refused f => rw [hr] at h; cases h

/-- A frame of two pixels, and the ticks that emit its first and its last pixel. -/
theorem witness_LoadedFrameRoundTrips : ∃ (bytes : List Word) (levels : List Bool) (s t : State), StateInv s ∧
    s.fs.ready = false ∧ bytes.length = 3 * s.cfg.n ∧ levels.length = 3 * s.cfg.n + 2 ∧
      s.inputs = fillInputs levels bytes ++ [] ∧ runCycles (3 * s.cfg.n + 2) s = .next t ∧
      ∀ i ∈ [0, 1], ∃ v : State, v.cfg = s.cfg ∧ v.store = t.store ∧ v.pc.pIdx.toNat < v.cfg.n ∧
        tickAligned v = true ∧ v.fs.activeValid = true ∧ tickSlot v = otherSlot s.fs.active ∧ tickIndex v = i ∧
        (bytes[3 * i]?).isSome = true ∧ (bytes[3 * i + 1]?).isSome = true ∧ (bytes[3 * i + 2]?).isSome = true := by
  obtain ⟨t, ht⟩ := loading_ends
  refine ⟨[1, 2, 3, 64, 0x1FF, 6], List.replicate 8 false, loading, t,
    stateInv_inputs (stateInv_edgeState tiny 1 false (by decide) (by decide)) _, rfl, rfl, rfl, rfl, ht, ?_⟩
  intro i hi
  refine ⟨{ State.resetOf tiny with
      pc := { (State.resetOf tiny).pc with aligned := true, pIdx := BitVec.ofNat 16 i, tc := 1 }
      fs := { (State.resetOf tiny).fs with active := .slot1, activeValid := true }
      store := t.store }, rfl, rfl, ?_⟩
  rcases List.mem_cons.mp hi with rfl | hi
  · exact ⟨show (0 : Nat) < 2 by decide, rfl, rfl, rfl, rfl, rfl, rfl, rfl⟩
  · obtain rfl := List.mem_singleton.mp hi
    exact ⟨show (1 : Nat) < 2 by decide, rfl, rfl, rfl, rfl, rfl, rfl, rfl⟩

theorem witness_DacHoldsBetweenTicks : ∃ t, step (withIn { live with pc := { live.pc with ctr := 3 } } false false 0) = .next t ∧
    t.wires.tick = false ∧ t.wires.enterIdle = false :=
  ⟨_, rfl, rfl, rfl⟩

theorem witness_WriteOnlyAndReservedReadZero :
    ∀ i ∈ [Instr.rdWoLoaddata, .rdWoCmd, .rdRsv14, .rdRsv15], nextOf (exec i live) ≠ none := by decide

/-- The members of the list, and the least and the greatest ignored address. -/
theorem witness_IgnoredWritesChangeNothing :
    (∃ d i, i ∈ [Instr.wrRoPeriod d, .wrRoPixq d, .wrRoPixr d, .wrRoTarget d, .wrRoPixerr d, .wrRoFps d, .wrRoPos d,
      .wrRoSwapcnt d, .wrRoRevticks d, .wrRsv14 d, .wrRsv15 d]) ∧
    ((0x3500000000#38).getLsbD 37 = true ∧ (0x3500000000#38).getLsbD 36 = true ∧
      ((0x3500000000#38).extractLsb' 32 4).toNat = 5) ∧
    (0x3FFFFFFFFF#38).getLsbD 37 = true ∧ (0x3FFFFFFFFF#38).getLsbD 36 = true ∧
      ((0x3FFFFFFFFF#38).extractLsb' 32 4).toNat = 15 :=
  ⟨⟨5, .wrRsv15 5, by simp⟩, by decide, by decide⟩

/-- A step, with and without reset, for the statements about what every step does. -/
theorem witness_OutputsAreOfTheStartState : ∀ rst : Bool, ∃ t, step (withIn live rst false 0x2100000000#38) = .next t := by
  intro rst
  cases rst <;> exact ⟨_, rfl⟩

/-- A cycle in which the host acknowledges a flag, and one in which the block sets it as well. -/
theorem witness_StickyFlagsSetWins : (∃ t, step (withIn live false false 0x3100001F00#38) = .next t) ∧
    ∃ t, step (withIn committed false false 0x3100001F00#38) = .next t :=
  ⟨⟨_, rfl⟩, ⟨_, rfl⟩⟩

/-- A swap; an accepted, a SHORT and a LONG pulse; a timeout. -/
theorem witness_CycleEventsExcludeEachOther :
    ∀ s ∈ [committed, edgeState Config.small 7 true, edgeState Config.small 6 true, edgeState Config.small 40 true,
      { live with pt := { live.pt with e := 40 } }], nextOf (step (withIn s false false 0)) ≠ none := by decide

theorem witness_ArmedAndValidFallOnlyByReset : ∃ t, step (withIn live false false 0) = .next t ∧
    live.pt.haveLast = true ∧ live.fs.activeValid = true :=
  ⟨_, rfl, rfl, rfl⟩

theorem witness_StepKeepsTheInvariant : ∃ s t : State, StateInv s ∧ step s = .next t :=
  ⟨withIn live false false 0x3300000005#38, _, stateInv_inputs stateInv_live _, rfl⟩

theorem witness_StepNeverStops : StateInv live := stateInv_live

theorem witness_ReachableStatesMeetTheFacts : Config.small.Legal ∧ ∃ t,
    runCycles (2 + 1) { State.powerUp live with
      cfg := Config.small, inputs := { rst := true, syncIn := true, word := 0 } :: quiet 2 } = .next t :=
  ⟨by decide, _, rfl⟩

theorem witness_StoreStaysCanonical : Memory.wf live.store = true ∧ Memory.within live.cfg live.store = true ∧
    nextOf (exec (.wrLoaddata 5) { live with fs := { live.fs with loadPtr := 0 } }) ≠ none := by decide

theorem witness_ParametersNeverChange : ∃ t, step (withIn live false false 0x3000030005#38) = .next t := ⟨_, rfl⟩

end Sys2Proof.Tests
end

/-! The proofs of the statements of 00_scope.md: no step changes the build parameters (R9), and no step reads
the signals and outputs recorded of the cycle before it (R8). -/

namespace Sys2Proof.Machine

/-! The build parameters, through each part of a cycle (40_pulse_timer.md R75). -/

@[simp] theorem acceptPulse_cfg (p tcOld : Word) (s : State) : (acceptPulse p tcOld s).cfg = s.cfg := rfl

@[simp] theorem cycleStart_cfg (s : State) : (cycleStart s).cfg = s.cfg := rfl

@[simp] theorem beforeEmission_cfg (s : State) : (beforeEmission s).cfg = s.cfg := by simp [beforeEmission]

theorem pulseTimerPart_cfg {s t : State} (h : pulseTimerPart s = .next t) : t.cfg = s.cfg := by
  obtain ⟨u, hu, hcases⟩ := pulseTimerPart_cases s
  obtain rfl : u = t := Host.Outcome.next.inj (hu.symm.trans h)
  rcases hcases with ⟨-, -, first⟩ | ⟨-, -, -, short⟩ | ⟨-, -, -, -, long⟩ | ⟨-, -, -, -, accept⟩ |
    ⟨-, -, -, timeout⟩ | ⟨-, -, elapse⟩
  · simp [first]
  · simp [short]
  · simp [long]
  · simp [accept]
  · simp [timeout]
  · simp [elapse]

theorem execEvTick_cfg {s t : State} (h : execEvTick s = .next t) : t.cfg = s.cfg := by
  obtain ⟨d, n, -, rfl⟩ := execEvTick_next h
  simp

theorem pixelClockPart_cfg {s t : State} (h : pixelClockPart s = .next t) : t.cfg = s.cfg := by
  rcases pixelClockPart_next h with ⟨-, rfl⟩ | ⟨-, tick⟩
  · simp
  · simp [execEvTick_cfg tick]

theorem endTransaction_cfg {w : TxWord} {s t : State} (h : endTransaction w s = .next t) : t.cfg = s.cfg := by
  obtain ⟨u, hu, hcases⟩ := endTransaction_cases w s
  obtain rfl : u = t := Host.Outcome.next.inj (hu.symm.trans h)
  rcases hcases with ⟨nothing, -⟩ | ⟨-, -, -, ctrl⟩ | ⟨-, -, -, status⟩ | ⟨-, -, -, loadptr⟩ |
    ⟨-, -, -, -, stored⟩ | ⟨-, -, -, -, overflow⟩ | ⟨-, -, -, -, commit⟩
  · simp [nothing]
  · simp [ctrl]
  · simp [status]
  · simp [loadptr]
  · simp [stored]
  · simp [overflow]
  · simp [commit]

theorem step_cfg {s t : State} (h : step s = .next t) : t.cfg = s.cfg := by
  obtain ⟨-, -, ⟨-, rfl⟩ | ⟨-, p, q, hp, hq, ht⟩⟩ := step_next h
  · simp
  · calc t.cfg = q.cfg := endTransaction_cfg ht
      _ = p.cfg := pixelClockPart_cfg hq
      _ = (synchronise (nextInput s).syncIn (cycleStart s)).cfg := pulseTimerPart_cfg hp
      _ = s.cfg := by simp

/-- Settles O56, part by part of the cycle. -/
theorem parametersNeverChange : Obligations.ParametersNeverChange :=
  fun _ _ h => step_cfg h

/-! The records of the cycle before: a step reads its start state through the inputs and the start of the cycle,
and neither looks at them. -/

theorem nextInput_of_records (s : State) (w : CycleWires) (o : Outputs) :
    nextInput { s with wires := w, out := o } = nextInput s := rfl

/-- The start of a cycle overwrites both records (00_scope.md R8: every cycle starts with its signals 0). -/
theorem beginCycle_of_records (s : State) (w : CycleWires) (o : Outputs) :
    beginCycle { s with wires := w, out := o } = beginCycle s := rfl

/-- Settles O57: the records are overwritten before anything reads them. -/
theorem cycleRecordsInfluenceNothing : Obligations.CycleRecordsInfluenceNothing := by
  intro s w o
  unfold step cycleWith
  rw [nextInput_of_records, beginCycle_of_records]

end Sys2Proof.Machine

/-! The proofs of the statements of 10_state.md: the reset values (R31), the invariant behind R30 and its preservation
by every step, and the DAC registers between ticks (R26). -/

namespace Sys2Proof

/-- A number that fits its width is what its bit vector stands for. -/
theorem toNat_ofNat_of_fits {w x : Nat} (fits : x < 2 ^ w) : (BitVec.ofNat w x).toNat = x :=
  (BitVec.toNat_ofNat x w).trans (Nat.mod_eq_of_lt fits)

/-! What a legal configuration bounds (00_scope.md R9). -/

theorem Config.Legal.n_bounds {c : Config} (h : c.Legal) : 2 ≤ c.n ∧ c.n ≤ 65535 := by
  obtain ⟨n, -, -, -, -, -, -⟩ := h
  exact n

theorem Config.Legal.eMax_lt {c : Config} (h : c.Legal) : c.eMax < c.n := by
  obtain ⟨-, -, -, -, eMax, -, -⟩ := h
  exact eMax

theorem Config.Legal.span_le_pMin {c : Config} (h : c.Legal) : c.n + c.eMax ≤ c.pMin := by
  obtain ⟨-, -, ⟨span, -⟩, -, -, -, -⟩ := h
  exact span

theorem Config.Legal.pMax_lt {c : Config} (h : c.Legal) : c.pMax + 1 < 2 ^ 32 := by
  obtain ⟨-, -, -, (pMax : c.pMax ≤ 2 ^ 32 - 2), -, -, -⟩ := h
  omega

theorem Config.Legal.phaseOffsetRst_le {c : Config} (h : c.Legal) : c.phaseOffsetRst ≤ 65535 := by
  obtain ⟨-, -, -, -, -, phase, -⟩ := h
  exact phase

/-- The reset value of T is N itself: it fits its 17 bits. -/
theorem Config.Legal.toNat_resetTarget {c : Config} (h : c.Legal) : (BitVec.ofNat 17 c.n).toNat = c.n := by
  have hn := h.n_bounds
  exact toNat_ofNat_of_fits (by omega)

theorem Config.Legal.toNat_resetPhase {c : Config} (h : c.Legal) :
    (BitVec.ofNat 16 c.phaseOffsetRst).toNat = c.phaseOffsetRst := by
  have hp := h.phaseOffsetRst_le
  exact toNat_ofNat_of_fits (by omega)

end Sys2Proof

namespace Sys2Proof.Machine

/-! ## Reset -/

/-- Settles O9. -/
theorem resetGivesTheTableValues : Obligations.ResetGivesTheTableValues := by
  refine ⟨fun s hc => ?_, fun junk slot o => ?_⟩
  · exact ⟨resetBlock s, rfl, rfl, rfl, hc.toNat_resetTarget, hc.toNat_resetPhase, rfl, rfl, rfl, rfl, rfl⟩
  · unfold slotByte
    cases cellAddress (State.powerUp junk).cfg slot o with
    | none => rfl
    | some a => exact Memory.read_nil a

/-- A reset meets the invariant from any state of a legal configuration whose store is one: the store is the only part
of the invariant that a reset keeps. -/
theorem stateInv_resetBlock {s : State} (hc : s.cfg.Legal) (hwf : Memory.wf s.store = true)
    (hin : Memory.within s.cfg s.store = true) : StateInv (resetBlock s) := by
  have hn := hc.n_bounds
  have target : (resetBlock s).pc.t.toNat = s.cfg.n := hc.toNat_resetTarget
  have idle : (resetBlock s).pt.syncValid ≠ true := Bool.false_ne_true
  exact {
    legal := hc
    launched := rfl
    facts := {
      pIdx_lt := show 0 < s.cfg.n by omega
      t_lower := by simp only [target, resetBlock_cfg]; omega
      t_upper := by simp only [target, resetBlock_cfg]; omega
      r_lt := by rw [target]; show 0 < s.cfg.n; omega
      acc_lt := by rw [target]; show 0 < s.cfg.n; omega
      live_ctr := fun live => absurd live idle
      live_q := fun live => absurd live idle
      aligned_live := fun aligned => absurd aligned Bool.false_ne_true
      live_armed := fun live => absurd live idle
      idle_blank := fun _ => rfl
      unswapped := fun _ => rfl
      loadPtr_le := Nat.zero_le _ }
    q_eq := (Nat.zero_div _).symm
    r_eq := (Nat.zero_mod _).symm
    period_ok := .inl rfl
    live_period := fun live => absurd live idle
    live_elapsed := fun live => absurd live idle
    store_wf := hwf
    store_within := hin }

/-- Settles O12: a reset leaves the reset state as it is. -/
theorem resetStatesMeetTheInvariant : Obligations.ResetStatesMeetTheInvariant :=
  fun c hc => stateInv_resetBlock (s := State.resetOf c) hc rfl rfl

/-! ## The invariant through the pulse timer

Each lemma names the clauses its operation touches; the others are those of the state before. -/

theorem stateInv_cycleStart {s : State} (h : StateInv s) : StateInv (cycleStart s) :=
  { h with facts := { h.facts with } }

theorem stateInv_synchronise {s : State} (b : Bool) (h : StateInv s) : StateInv (synchronise b s) :=
  { h with facts := { h.facts with } }

theorem stateInv_measure {s : State} (h : StateInv s) : StateInv (measure s) :=
  { h with
    facts := { h.facts with }
    live_elapsed := fun _ => Nat.zero_le _ }

/-- A first pulse arms the measurement (40_pulse_timer.md R83). -/
theorem stateInv_arm {s : State} (h : StateInv s) : StateInv { s with pt := { s.pt with haveLast := true } } :=
  { h with facts := { h.facts with live_armed := fun _ => rfl } }

/-- An idle entry makes every clause about a live block vacuous, and blanks the DAC (60_exceptions.md R149). -/
theorem stateInv_takeSensorFault {s : State} (c : Cause) (h : StateInv s) : StateInv (takeSensorFault c s) :=
  have idle : (takeSensorFault c s).pt.syncValid ≠ true := Bool.false_ne_true
  { h with
    facts := { h.facts with
      live_ctr := fun live => absurd live idle
      live_q := fun live => absurd live idle
      aligned_live := fun aligned => absurd aligned Bool.false_ne_true
      live_armed := fun live => absurd live idle
      idle_blank := fun _ => rfl }
    live_period := fun live => absurd live idle
    live_elapsed := fun live => absurd live idle }

theorem stateInv_countElapsed {s : State} (h : StateInv s)
    (window : s.pt.syncValid = true → (elapsedNext s).toNat ≤ s.cfg.pMax) : StateInv (countElapsed s) :=
  { h with
    facts := { h.facts with }
    live_elapsed := window }

/-- The target of 40_pulse_timer.md R88 fits its 17 bits. -/
theorem targetFor_toNat {c : Config} (hc : c.Legal) (err : Word) :
    ((targetFor c err).toNat : Int) = c.n + clampInt err.toInt (-c.eMax) c.eMax := by
  have hn := hc.n_bounds
  have he := hc.eMax_lt
  have hb := clampInt_bounds err.toInt (lo := -c.eMax) (hi := c.eMax) (by omega)
  unfold targetFor
  rw [BitVec.toNat_ofInt, Int.emod_eq_of_lt (by omega) (by omega)]
  exact Int.toNat_of_nonneg (by omega)

/-- N − E_MAX ≤ T ≤ N + E_MAX (40_pulse_timer.md R88). -/
theorem targetFor_bounds {c : Config} (hc : c.Legal) (err : Word) :
    c.n ≤ (targetFor c err).toNat + c.eMax ∧ (targetFor c err).toNat ≤ c.n + c.eMax := by
  have ht := targetFor_toNat hc err
  have hb := clampInt_bounds err.toInt (lo := -c.eMax) (hi := c.eMax) (by omega)
  omega

/-- Q = P div T: the quotient of a word fits a word (40_pulse_timer.md R89). -/
theorem divide_q_toNat (p : Word) (s : State) : (divide p s).pc.q.toNat = p.toNat / s.pc.t.toNat :=
  toNat_ofNat_of_fits ((Nat.div_le_self _ _).trans_lt p.isLt)

/-- R = P mod T: a remainder by T fits where T does (40_pulse_timer.md R89). -/
theorem divide_r_toNat (p : Word) {s : State} (ht : 0 < s.pc.t.toNat) :
    (divide p s).pc.r.toNat = p.toNat % s.pc.t.toNat :=
  toNat_ofNat_of_fits ((Nat.mod_lt _ ht).trans s.pc.t.isLt)

/-- The state with CTR at 1. An accepted pulse may find CTR at 0, and its own cycle re-arms CTR without reading it. -/
def withTickDue (s : State) : State := { s with pc := { s.pc with ctr := 1 } }

theorem fireTick_withTickDue (s : State) : fireTick (withTickDue s) = fireTick s := rfl

/-- The state in which an accepted pulse divides: ERR and T have their new values (40_pulse_timer.md R86). -/
def retargeted (tcOld : Word) (s : State) : State := setTarget (errUpdate s.pt.syncValid tcOld s)

theorem acceptPulse_eq (p tcOld : Word) (s : State) :
    acceptPulse p tcOld s = publish p (fpsUpdate p (divide p (retargeted tcOld s))) := rfl

theorem retargeted_bounds {s : State} (hc : s.cfg.Legal) (tcOld : Word) :
    s.cfg.n ≤ (retargeted tcOld s).pc.t.toNat + s.cfg.eMax ∧
      (retargeted tcOld s).pc.t.toNat ≤ s.cfg.n + s.cfg.eMax :=
  targetFor_bounds hc _

/-- An accepted pulse keeps the invariant but for CTR (40_pulse_timer.md R86 to R90). -/
theorem stateInv_acceptPulse {s : State} {p : Word} (tcOld : Word) (h : StateInv s) (armed : s.pt.haveLast = true)
    (hlo : s.cfg.pMin ≤ p.toNat) (hhi : p.toNat ≤ s.cfg.pMax) (he : s.pt.e = 0) :
    StateInv (withTickDue (acceptPulse p tcOld s)) := by
  have hn := h.legal.n_bounds
  have hE := h.legal.eMax_lt
  have hspan := h.legal.span_le_pMin
  have bounds := retargeted_bounds h.legal tcOld
  have t_pos : 0 < (retargeted tcOld s).pc.t.toNat := by omega
  have q_eq := divide_q_toNat p (retargeted tcOld s)
  have r_eq := divide_r_toNat p t_pos
  have q_pos : 1 ≤ p.toNat / (retargeted tcOld s).pc.t.toNat := Nat.div_pos (by omega) t_pos
  rw [acceptPulse_eq]
  exact { h with
    facts := { h.facts with
      t_lower := bounds.1
      t_upper := bounds.2
      r_lt := r_eq.trans_lt (Nat.mod_lt _ t_pos)
      acc_lt := t_pos
      live_ctr := fun _ => Nat.le_refl 1
      live_q := fun _ => q_pos.trans_eq q_eq.symm
      aligned_live := fun _ => rfl
      live_armed := fun _ => armed
      idle_blank := fun idle => absurd idle.symm Bool.false_ne_true }
    q_eq := q_eq
    r_eq := r_eq
    period_ok := .inr ⟨hlo, hhi⟩
    live_period := fun _ zero => by
      have : p.toNat = 0 := congrArg BitVec.toNat zero
      omega
    live_elapsed := fun _ => by
      show s.pt.e.toNat ≤ _
      rw [he]
      exact Nat.zero_le _ }

/-- What holds between step 2 and step 3 of a cycle: the invariant where no pulse was accepted, and the invariant but
for CTR where one was. -/
def TimerInv (s : State) : Prop :=
  (s.wires.accepted = false ∧ StateInv s) ∨
    (s.wires.accepted = true ∧ s.pt.syncValid = true ∧ StateInv (withTickDue s))

theorem TimerInv.accepted_live {s : State} (h : TimerInv s) (accepted : s.wires.accepted = true) :
    s.pt.syncValid = true := by
  rcases h with ⟨unaccepted, -⟩ | ⟨-, live, -⟩
  · exact absurd (unaccepted.symm.trans accepted) Bool.false_ne_true
  · exact live

theorem TimerInv.stateInv {s : State} (h : TimerInv s) (unaccepted : s.wires.accepted = false) : StateInv s := by
  rcases h with ⟨-, inv⟩ | ⟨accepted, -⟩
  · exact inv
  · exact absurd (unaccepted.symm.trans accepted) Bool.false_ne_true

theorem pulseTimerPart_timerInv {s p : State} (h : StateInv s) (clear : s.wires.accepted = false)
    (hp : pulseTimerPart s = .next p) : TimerInv p := by
  obtain ⟨u, hu, hcases⟩ := pulseTimerPart_cases s
  obtain rfl : u = p := Host.Outcome.next.inj (hu.symm.trans hp)
  rcases hcases with ⟨-, -, first⟩ | ⟨-, -, -, short⟩ | ⟨-, -, -, -, long⟩ | ⟨-, armed, hlo, hhi, accept⟩ |
    ⟨-, -, -, timeout⟩ | ⟨-, window, elapse⟩
  · exact .inl ⟨first ▸ clear, first ▸ stateInv_arm (stateInv_measure h)⟩
  · exact .inl ⟨short ▸ clear, short ▸ stateInv_takeSensorFault _ (stateInv_measure h)⟩
  · exact .inl ⟨long ▸ clear, long ▸ stateInv_takeSensorFault _ (stateInv_measure h)⟩
  · subst accept
    exact .inr ⟨rfl, rfl, stateInv_acceptPulse _ (stateInv_measure h) armed hlo hhi rfl⟩
  · -- The fault makes the block idle, and the count it takes with it is then no overdue one.
    have swap : takeSensorFault .timeout (countElapsed s) = countElapsed (takeSensorFault .timeout s) := rfl
    exact .inl ⟨timeout ▸ clear, timeout ▸ swap ▸ stateInv_countElapsed (stateInv_takeSensorFault _ h)
      fun live => absurd live Bool.false_ne_true⟩
  · exact .inl ⟨elapse ▸ clear, elapse ▸ stateInv_countElapsed h window⟩

/-! ## The invariant through the pixel clock -/

/-- ACC stays in [0, T) (41_pixel_clock.md R94). -/
theorem nextInterval_acc_lt {pc : PixelClock} (hr : pc.r.toNat < pc.t.toNat) (ha : pc.acc.toNat < pc.t.toNat) :
    (nextInterval pc).1.toNat < pc.t.toNat := by
  have ht := pc.t.isLt
  unfold nextInterval
  dsimp only
  split_ifs with hsum
  · rw [toNat_ofNat_of_fits (by omega)]
    omega
  · rw [toNat_ofNat_of_fits (by omega)]
    omega

/-- An interval is at least one cycle (41_pixel_clock.md R94). -/
theorem nextInterval_pos {pc : PixelClock} (hq : 1 ≤ pc.q.toNat) (fits : pc.q.toNat + 1 < 2 ^ 32) :
    1 ≤ (nextInterval pc).2.toNat := by
  unfold nextInterval
  dsimp only
  split_ifs with hsum
  · rw [BitVec.toNat_add_of_lt fits]
    exact Nat.le_add_left _ _
  · exact hq

/-- Q + 1 fits a word: Q is at most PERIOD, and that at most P_MAX. -/
theorem StateInv.q_succ_lt {s : State} (h : StateInv s) : s.pc.q.toNat + 1 < 2 ^ 32 := by
  have hmax := h.legal.pMax_lt
  have hq : s.pc.q.toNat ≤ s.pt.period.toNat := h.q_eq.trans_le (Nat.div_le_self _ _)
  rcases h.period_ok with zero | ⟨-, hhi⟩
  · have : s.pt.period.toNat = 0 := congrArg BitVec.toNat zero
    omega
  · omega

theorem stateInv_fireTick {s : State} (h : StateInv s) : StateInv (fireTick s) :=
  { h with
    facts := { h.facts with
      acc_lt := nextInterval_acc_lt h.facts.r_lt h.facts.acc_lt
      live_ctr := fun live => nextInterval_pos (h.facts.live_q live) h.q_succ_lt } }

/-- The pixel timer keeps the invariant, and completes it where this cycle's pulse was accepted. -/
theorem stateInv_pixelTimer {s : State} (h : TimerInv s) : StateInv (pixelTimer s) := by
  rcases pixelTimer_cases s with ⟨-, fires⟩ | ⟨quiet, -, holds⟩ | ⟨quiet, -, hctr, counts⟩
  · rw [fires]
    rcases h with ⟨-, inv⟩ | ⟨-, -, inv⟩
    · exact stateInv_fireTick inv
    · exact fireTick_withTickDue s ▸ stateInv_fireTick inv
  · rw [holds]
    have inv := h.stateInv quiet
    exact { inv with facts := { inv.facts with } }
  · rw [counts]
    have inv := h.stateInv quiet
    have down : (s.pc.ctr - 1).toNat = s.pc.ctr.toNat - 1 :=
      BitVec.toNat_sub_of_le (BitVec.le_def.mpr hctr.le)
    exact { inv with facts := { inv.facts with live_ctr := fun _ => show 1 ≤ (s.pc.ctr - 1).toNat by omega } }

/-- The pixel timer fires in a live block only. -/
theorem pixelTimer_tick_live {s : State} (h : TimerInv s)
    (tick : (pixelTimer s).wires.tick = true) : s.pt.syncValid = true := by
  rcases pixelTimer_cases s with ⟨accepted | ⟨live, -⟩, -⟩ | ⟨-, -, holds⟩ | ⟨-, live, -⟩
  · exact h.accepted_live accepted
  · exact live
  · simp [holds] at tick
  · exact live

theorem stateInv_alignIndex {s : State} (h : StateInv s) (live : s.pt.syncValid = true) :
    StateInv (alignIndex s) := by
  have hn := h.legal.n_bounds
  unfold alignIndex
  split_ifs
  · exact { h with facts := { h.facts with
      pIdx_lt := show 0 < s.cfg.n by omega
      aligned_live := fun _ => live } }
  · exact h

/-- A swap makes ACTIVE_VALID 1, so SWAP_COUNT may grow (42_frame_store.md R107). -/
theorem stateInv_arbitrate {s : State} (h : StateInv s) : StateInv (arbitrate s) := by
  unfold arbitrate
  dsimp only
  split_ifs
  · exact { h with facts := { h.facts with unswapped := fun invalid => absurd invalid.symm Bool.false_ne_true } }
  · exact { h with facts := { h.facts with } }

/-- A live block may drive any pixel. -/
theorem stateInv_emission {s : State} (d : DacRegs) (n : Nat) (h : StateInv s) (live : s.pt.syncValid = true) :
    StateInv { s with dm := d, draws := n } :=
  { h with facts := { h.facts with
      idle_blank := fun idle => absurd (idle.symm.trans live) Bool.false_ne_true } }

/-- P_IDX wraps at N, so it stays below N (41_pixel_clock.md R102). -/
theorem advanceIndex_pIdx_lt {s : State} (hn : 0 < s.cfg.n) (h : s.pc.pIdx.toNat < s.cfg.n) (fits : s.cfg.n ≤ 65535) :
    (advanceIndex s).pc.pIdx.toNat < s.cfg.n := by
  rw [advanceIndex_pc]
  dsimp only
  split_ifs with last
  · exact hn
  · have up : (s.pc.pIdx + 1).toNat = s.pc.pIdx.toNat + 1 :=
      BitVec.toNat_add_of_lt (show s.pc.pIdx.toNat + 1 < 2 ^ 16 by omega)
    omega

theorem stateInv_advanceIndex {s : State} (h : StateInv s) : StateInv (advanceIndex s) :=
  have hn := h.legal.n_bounds
  { h with facts := { h.facts with pIdx_lt := advanceIndex_pIdx_lt (by omega) h.facts.pIdx_lt hn.2 } }

theorem execEvTick_stateInv {s t : State} (h : StateInv s) (live : s.pt.syncValid = true)
    (ht : execEvTick s = .next t) : StateInv t := by
  obtain ⟨d, n, -, rfl⟩ := execEvTick_next ht
  have before : StateInv (beforeEmission s) := stateInv_arbitrate (stateInv_alignIndex h live)
  have still_live : (beforeEmission s).pt.syncValid = true := by simpa [beforeEmission] using live
  exact stateInv_advanceIndex (stateInv_emission d n before still_live)

/-- Steps 3 and 4 of a cycle keep the invariant, from what step 2 leaves. -/
theorem pixelClockPart_stateInv {s t : State} (h : TimerInv s)
    (ht : pixelClockPart s = .next t) : StateInv t := by
  have timed : StateInv (pixelTimer s) := stateInv_pixelTimer h
  rcases pixelClockPart_next ht with ⟨-, rfl⟩ | ⟨tick, ticked⟩
  · exact timed
  · have live : (pixelTimer s).pt.syncValid = true := (pixelTimer_pt s).symm ▸ pixelTimer_tick_live h tick
    exact execEvTick_stateInv timed live ticked

/-! ## The invariant through the host's write, and the whole step -/

/-- A host write keeps the invariant: none of its registers is bound by it but LOAD_PTR, which has 18 bits, and the byte
it stores has a cell. -/
theorem endTransaction_stateInv {w : TxWord} {s t : State} (h : StateInv s) (ht : endTransaction w s = .next t) :
    StateInv t := by
  obtain ⟨u, hu, hcases⟩ := endTransaction_cases w s
  obtain rfl : u = t := Host.Outcome.next.inj (hu.symm.trans ht)
  rcases hcases with ⟨nothing, -⟩ | ⟨-, -, -, ctrl⟩ | ⟨-, -, -, status⟩ | ⟨-, -, -, loadptr⟩ |
    ⟨-, -, -, inRange, stored⟩ | ⟨-, -, -, -, overflow⟩ | ⟨-, -, -, -, commit⟩
  · exact nothing ▸ h
  · exact ctrl ▸ { h with facts := { h.facts with } }
  · exact status ▸ { h with facts := { h.facts with } }
  · exact loadptr ▸ { h with facts := { h.facts with loadPtr_le := Nat.le_sub_one_of_lt (BitVec.isLt _) } }
  · subst stored
    exact { h with
      facts := { h.facts with loadPtr_le := Nat.le_sub_one_of_lt (BitVec.isLt _) }
      store_wf := Memory.wf_write _ _ h.store_wf
      store_within := Memory.within_write _ (cellAddress_lt (cellAddress_of_lt _ inRange)) h.store_within }
  · exact overflow ▸ { h with facts := { h.facts with } }
  · exact commit ▸ { h with facts := { h.facts with } }

theorem step_stateInv {s t : State} (h : StateInv s) (ht : step s = .next t) : StateInv t := by
  obtain ⟨-, -, ⟨-, rfl⟩ | ⟨-, p, q, hp, hq, ht⟩⟩ := step_next ht
  · exact stateInv_resetBlock h.legal h.store_wf h.store_within
  · have started := stateInv_synchronise (nextInput s).syncIn (stateInv_cycleStart h)
    have timed := pixelClockPart_stateInv (pulseTimerPart_timerInv started rfl hp) hq
    exact endTransaction_stateInv timed ht

/-- Settles O52, part by part of the cycle. -/
theorem stepKeepsTheInvariant : Obligations.StepKeepsTheInvariant :=
  fun _ _ => step_stateInv

/-! ## Runs -/

/-- The invariant holds along every run that starts in it. -/
theorem runCycles_stateInv {k : Nat} {s t : State} (h : StateInv s) (ht : runCycles k s = .next t) : StateInv t := by
  induction k generalizing s with
  | zero => exact Host.Outcome.next.inj ht ▸ h
  | succ k ih =>
    obtain ⟨m, hm, rest⟩ := andThen_eq_next ht
    exact ih (step_stateInv h hm) rest

/-- The first reset cycle after power-up establishes the invariant: the store is still empty. -/
theorem firstReset_stateInv {s t : State} (rst : (nextInput s).rst = true) (unwritten : s.store = [])
    (ht : step s = .next t) : StateInv t := by
  obtain ⟨hc, -, ⟨-, rfl⟩ | ⟨running, -⟩⟩ := step_next ht
  · exact stateInv_resetBlock hc (by simp [cycleStart, unwritten]) (by simp [cycleStart, unwritten])
  · exact absurd (running.symm.trans rst) Bool.false_ne_true

/-- Settles O54: the first cycle establishes the invariant, and the cycles after it keep it. -/
theorem reachableStatesMeetTheFacts : Obligations.ReachableStatesMeetTheFacts := by
  intro junk t c y w ins k _ ht
  obtain ⟨m, hm, rest⟩ := andThen_eq_next ht
  exact (runCycles_stateInv (firstReset_stateInv rfl rfl hm) rest).facts

/-! ## The DAC registers between ticks -/

/-- Step 2 of a cycle writes the DAC registers in an idle entry only. -/
theorem pulseTimerPart_dm {s p : State} (hp : pulseTimerPart s = .next p) (stays : p.wires.enterIdle = false) :
    p.dm = s.dm := by
  obtain ⟨u, hu, hcases⟩ := pulseTimerPart_cases s
  obtain rfl : u = p := Host.Outcome.next.inj (hu.symm.trans hp)
  have no_fault (c : Cause) (m : State) : u ≠ takeSensorFault c m := fun fault => by simp [fault] at stays
  rcases hcases with ⟨-, -, first⟩ | ⟨-, -, -, short⟩ | ⟨-, -, -, -, long⟩ | ⟨-, -, -, -, accept⟩ |
    ⟨-, -, -, timeout⟩ | ⟨-, -, elapse⟩
  · rw [first]; rfl
  · exact absurd short (no_fault _ _)
  · exact absurd long (no_fault _ _)
  · rw [accept]; rfl
  · exact absurd timeout (no_fault _ _)
  · rw [elapse]; rfl

theorem pixelTimer_wires_enterIdle (s : State) : (pixelTimer s).wires.enterIdle = s.wires.enterIdle := by
  rcases pixelTimer_cases s with ⟨-, fires⟩ | ⟨-, -, holds⟩ | ⟨-, -, -, counts⟩
  · rw [fires]; rfl
  · rw [holds]
  · rw [counts]

theorem arbitrate_wires_tick (s : State) : (arbitrate s).wires.tick = s.wires.tick := by
  unfold arbitrate
  dsimp only
  split_ifs <;> rfl

/-- A tick does not withdraw its own signal. -/
theorem execEvTick_wires_tick {s t : State} (ht : execEvTick s = .next t) : t.wires.tick = s.wires.tick := by
  obtain ⟨d, n, -, rfl⟩ := execEvTick_next ht
  simp [beforeEmission, arbitrate_wires_tick]

/-- Steps 3 and 4 of a cycle without a tick are the pixel timer alone, which leaves the DAC registers and the idle
entry's signal. -/
theorem pixelClockPart_of_no_tick {s t : State} (ht : pixelClockPart s = .next t) (quiet : t.wires.tick = false) :
    t.dm = s.dm ∧ t.wires.enterIdle = s.wires.enterIdle := by
  rcases pixelClockPart_next ht with ⟨-, rfl⟩ | ⟨tick, ticked⟩
  · exact ⟨pixelTimer_dm s, pixelTimer_wires_enterIdle s⟩
  · have still : t.wires.tick = true := (execEvTick_wires_tick ticked).trans tick
    exact absurd (quiet.symm.trans still) Bool.false_ne_true

/-- A host write leaves the DAC registers and the signals of the tick and of the idle entry. -/
theorem endTransaction_dac_frame {w : TxWord} {s t : State} (ht : endTransaction w s = .next t) :
    t.dm = s.dm ∧ t.wires.tick = s.wires.tick ∧ t.wires.enterIdle = s.wires.enterIdle := by
  obtain ⟨u, hu, hcases⟩ := endTransaction_cases w s
  obtain rfl : u = t := Host.Outcome.next.inj (hu.symm.trans ht)
  rcases hcases with ⟨nothing, -⟩ | ⟨-, -, -, ctrl⟩ | ⟨-, -, -, status⟩ | ⟨-, -, -, loadptr⟩ |
    ⟨-, -, -, -, stored⟩ | ⟨-, -, -, -, overflow⟩ | ⟨-, -, -, -, commit⟩
  · simp [nothing]
  · simp [ctrl]
  · simp [status]
  · simp [loadptr]
  · simp [stored]
  · simp [overflow]
  · simp [commit]

/-- Settles O41, part by part of the cycle. -/
theorem dacHoldsBetweenTicks : Obligations.DacHoldsBetweenTicks := by
  intro s t h running noTick noIdle
  obtain ⟨-, -, ⟨rst, -⟩ | ⟨-, p, q, hp, hq, ht⟩⟩ := step_next h
  · exact absurd (running.symm.trans rst) Bool.false_ne_true
  · obtain ⟨dm_end, tick_end, idle_end⟩ := endTransaction_dac_frame ht
    obtain ⟨dm_clock, idle_clock⟩ := pixelClockPart_of_no_tick hq (tick_end ▸ noTick)
    have p_stays : p.wires.enterIdle = false := idle_clock.symm.trans (idle_end.symm.trans noIdle)
    calc t.dm = q.dm := dm_end
      _ = p.dm := dm_clock
      _ = (synchronise (nextInput s).syncIn (cycleStart s)).dm := pulseTimerPart_dm hp p_stays
      _ = s.dm := rfl

end Sys2Proof.Machine

/-! The proofs of the statements of 20_memory.md: the store stays canonical (R48), a host transaction leaves the
active slot and the roles (R49, R58), and the swap is whole and happens at a committed frame start only (R55, R60). -/

namespace Sys2Proof.Machine

/-! ## What an operation can do to the store -/

/-- The store after a fill: one byte written to an existing cell of standby (42_frame_store.md R111). -/
def FillsStandby (s t : State) : Prop :=
  ∃ o a v, cellAddress s.cfg (standbySlot s) o = some a ∧ t.store = Memory.write s.store a v

/-- WR.LOADDATA fills standby, or leaves the store where LOAD_PTR is past the slot's end; the roles stay. -/
theorem execWrLoaddata_store {d : Word} {s t : State} (h : execWrLoaddata d s = .next t) :
    t.cfg = s.cfg ∧ t.fs.active = s.fs.active ∧ (t.store = s.store ∨ FillsStandby s t) := by
  rcases Nat.lt_or_ge s.fs.loadPtr.toNat s.cfg.slotBytes with inRange | past
  · obtain rfl := Host.Outcome.next.inj ((execWrLoaddata_in_range inRange).symm.trans h)
    exact ⟨rfl, rfl, .inr ⟨_, _, _, cellAddress_of_lt _ inRange, rfl⟩⟩
  · obtain rfl := Host.Outcome.next.inj ((execWrLoaddata_overflow past).symm.trans h)
    exact ⟨rfl, rfl, .inl rfl⟩

/-- What a host transaction can do to the store and the roles: WR.LOADDATA may fill standby, and that is all
(20_memory.md R49, R56). -/
theorem exec_transaction_store {i : Instr} {s t : State} (transaction : i.isTransaction = true)
    (h : exec i s = .next t) :
    t.cfg = s.cfg ∧ t.fs.active = s.fs.active ∧ (t.store = s.store ∨ FillsStandby s t) := by
  cases i with
  | wrLoaddata d => exact execWrLoaddata_store h
  | wrCmd d =>
    obtain rfl := Host.Outcome.next.inj h
    split_ifs
    · exact ⟨rfl, rfl, .inl rfl⟩
    · exact ⟨rfl, rfl, .inl rfl⟩
  | evReset | evPulseFirst | evPulseShort | evPulseLong | evPulseAccept | evElapse | evTimeout | evTimer | evTick =>
    exact absurd transaction Bool.false_ne_true
  | _ =>
    obtain rfl := Host.Outcome.next.inj h
    exact ⟨rfl, rfl, .inl rfl⟩

/-- No event writes the store: the only writer is the host (20_memory.md R49). -/
theorem exec_event_store {i : Instr} {s t : State} (event : i.isTransaction = false) (h : exec i s = .next t) :
    t.cfg = s.cfg ∧ t.store = s.store := by
  cases i with
  | evElapse =>
    change (if timeoutDue (countElapsed s) then _ else _) = _ at h
    split_ifs at h
    · obtain rfl := Host.Outcome.next.inj h
      exact ⟨rfl, rfl⟩
    · obtain rfl := Host.Outcome.next.inj h
      exact ⟨rfl, rfl⟩
  | evTimer =>
    obtain rfl := Host.Outcome.next.inj h
    exact ⟨pixelTimer_cfg s, pixelTimer_store s⟩
  | evTick =>
    obtain ⟨d, n, -, rfl⟩ := execEvTick_next h
    simp [beforeEmission]
  | evReset | evPulseFirst | evPulseShort | evPulseLong | evPulseAccept | evTimeout =>
    obtain rfl := Host.Outcome.next.inj h
    exact ⟨rfl, rfl⟩
  | _ => exact absurd event.symm Bool.false_ne_true

/-- What any operation can do to the store. -/
theorem exec_store {i : Instr} {s t : State} (h : exec i s = .next t) :
    t.cfg = s.cfg ∧ (t.store = s.store ∨ FillsStandby s t) := by
  cases kind : i.isTransaction
  · obtain ⟨cfg, store⟩ := exec_event_store kind h
    exact ⟨cfg, .inl store⟩
  · obtain ⟨cfg, -, store⟩ := exec_transaction_store kind h
    exact ⟨cfg, store⟩

/-- Settles O55: an operation keeps the store, or writes a byte to an existing cell. -/
theorem storeStaysCanonical : Obligations.StoreStaysCanonical := by
  intro i s t wf within h
  obtain ⟨cfg, same | ⟨o, a, v, cell, written⟩⟩ := exec_store h
  · rw [cfg, same]
    exact ⟨wf, within⟩
  · rw [cfg, written]
    exact ⟨Memory.wf_write a v wf, Memory.within_write v (cellAddress_lt cell) within⟩

/-- A fill leaves every byte of the active slot: standby is the other one (20_memory.md R58). -/
theorem FillsStandby.slotByte_active {s t : State} (h : FillsStandby s t) (cfg : t.cfg = s.cfg) (o : Nat) :
    slotByte t s.fs.active o = slotByte s s.fs.active o := by
  obtain ⟨o', a, v, cell, written⟩ := h
  calc slotByte t s.fs.active o
      = slotByte { s with store := Memory.write s.store a v } s.fs.active o :=
        slotByte_congr (s := { s with store := Memory.write s.store a v }) cfg written _ _
    _ = slotByte s s.fs.active o := slotByte_write_other v cell (.inl (otherSlot_ne s.fs.active).symm)

/-- Settles O38: a transaction leaves the store, or fills standby. -/
theorem transactionsKeepTheActiveSlot : Obligations.TransactionsKeepTheActiveSlot := by
  intro i s t transaction h
  obtain ⟨cfg, active, same | fill⟩ := exec_transaction_store transaction h
  · exact ⟨active, slotByte_congr cfg same s.fs.active⟩
  · exact ⟨active, fill.slotByte_active cfg⟩

/-! ## The swap, through each part of a cycle -/

/-- The pulse timer knows neither the arbiter nor the frame start. -/
theorem pulseTimerPart_arbiter {s p : State} (hp : pulseTimerPart s = .next p) :
    p.fs = s.fs ∧ p.wires.frameStart = s.wires.frameStart := by
  obtain ⟨u, hu, hcases⟩ := pulseTimerPart_cases s
  obtain rfl : u = p := Host.Outcome.next.inj (hu.symm.trans hp)
  rcases hcases with ⟨-, -, rfl⟩ | ⟨-, -, -, rfl⟩ | ⟨-, -, -, -, rfl⟩ | ⟨-, -, -, -, rfl⟩ | ⟨-, -, -, rfl⟩ |
    ⟨-, -, rfl⟩
  all_goals exact ⟨rfl, rfl⟩

theorem pixelTimer_wires_frameStart (s : State) : (pixelTimer s).wires.frameStart = s.wires.frameStart := by
  rcases pixelTimer_cases s with ⟨-, fires⟩ | ⟨-, -, holds⟩ | ⟨-, -, -, counts⟩
  · rw [fires]; rfl
  · rw [holds]
  · rw [counts]

/-- All of a swap has happened between two states (42_frame_store.md R107): the arbiter's part, the sticky flag, and
its record in `setmask`, which protects the flag from this cycle's acknowledgement (60_exceptions.md R153). -/
structure WholeSwap (s t : State) : Prop where
  arbiter : t.fs = (swapSlots s).fs
  flag : t.hb.swapped = true
  recorded : t.wires.setmask.getLsbD (causeBit .swapped) = true

/-- SWAP is a whole swap, whatever the cycle's signals are when it happens. -/
theorem wholeSwap_swapSlots (s : State) (w : CycleWires) : WholeSwap s (swapSlots { s with wires := w }) where
  arbiter := rfl
  flag := rfl
  recorded := by
    rw [swapSlots_wires, BitVec.getLsbD_or, causeMask_getLsbD]
    simp

/-- What the arbiter can do in a tick: the whole swap at a frame start with READY = 1, and nothing to its own
state otherwise (41_pixel_clock.md R99, 42_frame_store.md R107, R108). -/
theorem arbitrate_cases (s : State) :
    ((arbitrate s).wires.frameStart = true ∧ s.fs.ready = true ∧ WholeSwap s (arbitrate s)) ∨
      (¬((arbitrate s).wires.frameStart = true ∧ s.fs.ready = true) ∧ (arbitrate s).fs = s.fs) := by
  unfold arbitrate
  dsimp only
  split_ifs with swaps
  · obtain ⟨start, ready⟩ := Bool.and_eq_true_iff.mp swaps
    exact .inl ⟨start, ready, wholeSwap_swapSlots s _⟩
  · exact .inr ⟨fun ⟨start, ready⟩ => swaps (Bool.and_eq_true_iff.mpr ⟨start, ready⟩), rfl⟩

/-- What steps 3 and 4 of a cycle can do to the arbiter: the whole swap in a tick at a frame start with READY = 1,
and nothing otherwise. -/
theorem pixelClockPart_swap {s t : State} (ht : pixelClockPart s = .next t) (clear : s.wires.frameStart = false) :
    (t.wires.frameStart = true ∧ s.fs.ready = true ∧ t.wires.tick = true ∧ WholeSwap s t) ∨
      (¬(t.wires.frameStart = true ∧ s.fs.ready = true) ∧ t.fs = s.fs) := by
  rcases pixelClockPart_next ht with ⟨-, rfl⟩ | ⟨tick, ticked⟩
  · rw [pixelTimer_wires_frameStart, clear]
    exact .inr ⟨fun ⟨start, _⟩ => Bool.false_ne_true start, pixelTimer_fs s⟩
  · have tick_end : t.wires.tick = true := (execEvTick_wires_tick ticked).trans tick
    have fs_before : (alignIndex (pixelTimer s)).fs = s.fs := by simp
    obtain ⟨d, n, -, rfl⟩ := execEvTick_next ticked
    rcases arbitrate_cases (alignIndex (pixelTimer s)) with ⟨start, ready, swap⟩ | ⟨noSwap, kept⟩
    · refine .inl ⟨start, fs_before ▸ ready, tick_end, { swap with arbiter := ?_ }⟩
      calc (beforeEmission (pixelTimer s)).fs
          = (swapSlots (alignIndex (pixelTimer s))).fs := swap.arbiter
        _ = (swapSlots s).fs := by rw [swapSlots_fs, swapSlots_fs, fs_before]
    · exact .inr ⟨fs_before ▸ noSwap, kept.trans fs_before⟩

/-- A write of CMD decodes to WR.CMD (30_encoding.md R68). -/
theorem decode_of_write_cmd {w : TxWord} (sel : w.sel = true) (we : w.we = true) (addr : w.addr = 4) :
    decode w = .wrCmd w.wdata := by
  simp [decode, decodeWrite, sel, we, addr]

/-- What the host's write at the end of a cycle leaves of the swap before it: the roles, the signals of the tick, a flag
set in this cycle, and READY at 0 unless the write is a commit (42_frame_store.md R112, 60_exceptions.md R153). -/
structure LeavesSwap (w : TxWord) (s t : State) : Prop where
  roles : t.fs = { s.fs with ready := t.fs.ready, loadPtr := t.fs.loadPtr }
  frameStart : t.wires.frameStart = s.wires.frameStart
  flag : s.hb.swapped = true → s.wires.setmask.getLsbD (causeBit .swapped) = true → t.hb.swapped = true
  commit : s.fs.ready = false → t.fs.ready = true → ∃ d, decode w = .wrCmd d ∧ d.getLsbD 0 = true

/-- An acknowledgement does not clear the flag that this cycle's swap set (60_exceptions.md R153, "set wins"). -/
theorem acknowledge_keeps_recorded_swap {s : State} (d : Word) (flag : s.hb.swapped = true)
    (recorded : s.wires.setmask.getLsbD (causeBit .swapped) = true) : (acknowledge d s).hb.swapped = true := by
  change stickyFlag .swapped (clearSticky (clearMask d s.wires.setmask) s.hb) = true
  rw [stickyFlag_clearSticky, clearMask_getLsbD, recorded]
  simpa [stickyFlag] using flag

theorem endTransaction_leavesSwap {w : TxWord} {s t : State} (ht : endTransaction w s = .next t) :
    LeavesSwap w s t := by
  have stays_low {p : Prop} (low : s.fs.ready = false) (high : s.fs.ready = true) : p :=
    absurd (low.symm.trans high) Bool.false_ne_true
  obtain ⟨u, hu, hcases⟩ := endTransaction_cases w s
  obtain rfl : u = t := Host.Outcome.next.inj (hu.symm.trans ht)
  rcases hcases with ⟨rfl, -⟩ | ⟨-, -, -, rfl⟩ | ⟨-, -, -, rfl⟩ | ⟨-, -, -, rfl⟩ |
    ⟨-, -, -, -, rfl⟩ | ⟨-, -, -, -, rfl⟩ | ⟨sel, we, addr, commit, rfl⟩
  · exact ⟨rfl, rfl, fun flag _ => flag, stays_low⟩
  · exact ⟨rfl, rfl, fun flag _ => flag, stays_low⟩
  · exact ⟨rfl, rfl, acknowledge_keeps_recorded_swap _, stays_low⟩
  · exact ⟨rfl, rfl, fun flag _ => flag, stays_low⟩
  · exact ⟨rfl, rfl, fun flag _ => flag, fun _ high => absurd high Bool.false_ne_true⟩
  · exact ⟨rfl, rfl, fun flag _ => flag, stays_low⟩
  · exact ⟨rfl, rfl, fun flag _ => flag, fun _ _ => ⟨_, decode_of_write_cmd sel we addr, commit⟩⟩

/-- Settles O34: the arbiter swaps in the tick, and the host's write after it leaves the swap. -/
theorem swapIsWholeAndOnlyAtCommittedFrameStart : Obligations.SwapIsWholeAndOnlyAtCommittedFrameStart := by
  intro s t h running
  obtain ⟨-, -, ⟨rst, -⟩ | ⟨-, p, q, hp, hq, ht⟩⟩ := step_next h
  · exact absurd (running.symm.trans rst) Bool.false_ne_true
  · obtain ⟨fs_start, clear⟩ : p.fs = s.fs ∧ p.wires.frameStart = false := pulseTimerPart_arbiter hp
    have write := endTransaction_leavesSwap ht
    obtain ⟨-, tick_end, -⟩ := endTransaction_dac_frame ht
    rw [write.frameStart, tick_end, write.roles, ← fs_start]
    rcases pixelClockPart_swap hq clear with ⟨start, ready, tick, swap⟩ | ⟨noSwap, kept⟩
    · rw [if_pos ⟨start, ready⟩, swap.arbiter]
      have low : q.fs.ready = false := by rw [swap.arbiter]; rfl
      exact ⟨tick, rfl, rfl, rfl, write.flag swap.flag swap.recorded, write.commit low⟩
    · rw [if_neg noSwap, kept]
      exact ⟨rfl, rfl, rfl⟩

end Sys2Proof.Machine

/-! The proofs of the statements of 30_encoding.md: the fields of a transaction word (R64), the operation it selects
(R65 to R67), the canonical words, and the opcode table (R68). -/

namespace Sys2Proof

/-! ## The fields of a word (R64) -/

/-- A bit as a one-bit word is the field of width 1 at its position. -/
theorem ofBool_getLsbD_eq_extractLsb' {n : Nat} (w : BitVec n) (k : Nat) :
    BitVec.ofBool (w.getLsbD k) = w.extractLsb' k 1 := by
  rw [BitVec.getLsbD_eq_extractLsb']
  generalize w.extractLsb' k 1 = bit
  revert bit
  decide

/-- A word is made of its four fields and of nothing else. -/
theorem busWord_fields (w : TxWord) : busWord w.sel w.we w.addr w.wdata = w := by
  rw [busWord, TxWord.sel, TxWord.we, ofBool_getLsbD_eq_extractLsb', ofBool_getLsbD_eq_extractLsb']
  exact calc
    w.extractLsb' 37 1 ++ w.extractLsb' 36 1 ++ w.extractLsb' 32 4 ++ w.extractLsb' 0 32
      = w.extractLsb' 36 2 ++ w.extractLsb' 32 4 ++ w.extractLsb' 0 32 :=
        congrArg (· ++ w.extractLsb' 32 4 ++ w.extractLsb' 0 32) (BitVec.extractLsb'_append_extractLsb'_eq_extractLsb' rfl)
    _ = w.extractLsb' 32 6 ++ w.extractLsb' 0 32 :=
        congrArg (· ++ w.extractLsb' 0 32) (BitVec.extractLsb'_append_extractLsb'_eq_extractLsb' rfl)
    _ = w.extractLsb' 0 38 := BitVec.extractLsb'_append_extractLsb'_eq_extractLsb' rfl
    _ = w := BitVec.extractLsb'_eq_self

/-- Above WDATA stands the header, six bits. -/
theorem busWord_getLsbD_of_ge {i : Nat} (sel we : Bool) (addr : BitVec 4) (wdata : Word) (header : 32 ≤ i) :
    (busWord sel we addr wdata).getLsbD i = (BitVec.ofBool sel ++ BitVec.ofBool we ++ addr).getLsbD (i - 32) :=
  BitVec.getLsbD_append.trans (if_neg (Nat.not_lt.mpr header))

@[simp] theorem busWord_sel (sel we : Bool) (addr : BitVec 4) (wdata : Word) : (busWord sel we addr wdata).sel = sel := by
  rw [TxWord.sel, busWord_getLsbD_of_ge _ _ _ _ (by decide)]
  simp only [BitVec.getLsbD_append]
  simp

@[simp] theorem busWord_we (sel we : Bool) (addr : BitVec 4) (wdata : Word) : (busWord sel we addr wdata).we = we := by
  rw [TxWord.we, busWord_getLsbD_of_ge _ _ _ _ (by decide)]
  simp only [BitVec.getLsbD_append]
  simp

@[simp] theorem busWord_addr (sel we : Bool) (addr : BitVec 4) (wdata : Word) :
    (busWord sel we addr wdata).addr = addr :=
  (BitVec.extractLsb'_append_eq_of_le (Nat.le_refl 32)).trans BitVec.extractLsb'_append_eq_right

@[simp] theorem busWord_wdata (sel we : Bool) (addr : BitVec 4) (wdata : Word) :
    (busWord sel we addr wdata).wdata = wdata :=
  BitVec.extractLsb'_append_eq_right

/-- The word as the spec writes it: its fields shifted to their places and or-ed. -/
theorem busWord_eq_or (sel we : Bool) (addr : BitVec 4) (wdata : Word) :
    busWord sel we addr wdata =
      (BitVec.ofBool sel).setWidth 38 <<< 37 ||| (BitVec.ofBool we).setWidth 38 <<< 36 ||| addr.setWidth 38 <<< 32 |||
        wdata.setWidth 38 :=
  (BitVec.setWidth_eq _).symm.trans BitVec.setWidth_append_append_append_eq_shiftLeft_setWidth_or

/-- R66: the canonical word of a read. -/
theorem readWord_eq_or (addr : BitVec 4) : busWord true false addr 0 = 0x2000000000#38 ||| addr.setWidth 38 <<< 32 := by
  rw [busWord_eq_or]
  exact BitVec.or_zero

/-- R67: the word of a write. -/
theorem writeWord_eq_or (addr : BitVec 4) (wdata : Word) :
    busWord true true addr wdata = 0x3000000000#38 ||| addr.setWidth 38 <<< 32 ||| wdata.setWidth 38 := by
  rw [busWord_eq_or]
  rfl

/-! ## The operation a word selects (R65 to R67) -/

theorem decode_of_not_sel {w : TxWord} (sel : w.sel = false) : decode w = .nop := by
  simp [decode, sel]

theorem decode_of_read {w : TxWord} (sel : w.sel = true) (we : w.we = false) : decode w = decodeRead w.addr := by
  simp [decode, sel, we]

theorem decode_of_write {w : TxWord} (sel : w.sel = true) (we : w.we = true) :
    decode w = decodeWrite w.addr w.wdata := by
  simp [decode, sel, we]

/-! ## The canonical words (R65 to R68) -/

@[simp] theorem decode_busWord_nop (we : Bool) (addr : BitVec 4) (wdata : Word) :
    decode (busWord false we addr wdata) = .nop :=
  decode_of_not_sel (busWord_sel ..)

@[simp] theorem decode_busWord_read (addr : BitVec 4) (wdata : Word) :
    decode (busWord true false addr wdata) = decodeRead addr := by
  rw [decode_of_read (busWord_sel ..) (busWord_we ..), busWord_addr]

@[simp] theorem decode_busWord_write (addr : BitVec 4) (wdata : Word) :
    decode (busWord true true addr wdata) = decodeWrite addr wdata := by
  rw [decode_of_write (busWord_sel ..) (busWord_we ..), busWord_addr, busWord_wdata]

theorem encode_decodeRead (addr : BitVec 4) : encode (decodeRead addr) = some (busWord true false addr 0) := by
  obtain ⟨⟨n, hn⟩⟩ := addr
  interval_cases n <;> rfl

theorem encode_decodeWrite (addr : BitVec 4) (wdata : Word) :
    encode (decodeWrite addr wdata) = some (busWord true true addr wdata) := by
  obtain ⟨⟨n, hn⟩⟩ := addr
  interval_cases n <;> rfl

/-- Settles O1, by the three kinds of transaction: the NOP, the reads and the writes; an event has no word. -/
theorem decodeAfterEncodeIsIdentity : Obligations.DecodeAfterEncodeIsIdentity := by
  intro i transaction
  cases i with
  | nop => exact ⟨_, rfl, decode_busWord_nop ..⟩
  | rdCtrl | rdStatus | rdLoadptr | rdWoLoaddata | rdWoCmd | rdPeriod | rdPixq | rdPixr | rdTarget | rdPixerr | rdFps
  | rdPos | rdSwapcnt | rdRevticks | rdRsv14 | rdRsv15 => exact ⟨_, rfl, decode_busWord_read ..⟩
  | wrCtrl | wrStatus | wrLoadptr | wrLoaddata | wrCmd | wrRoPeriod | wrRoPixq | wrRoPixr | wrRoTarget | wrRoPixerr
  | wrRoFps | wrRoPos | wrRoSwapcnt | wrRoRevticks | wrRsv14 | wrRsv15 => exact ⟨_, rfl, decode_busWord_write ..⟩
  | evReset | evPulseFirst | evPulseShort | evPulseLong | evPulseAccept | evElapse | evTimeout | evTimer | evTick =>
    exact nomatch transaction

/-! ## The opcode table (R68) -/

/-- No row fixes a bit of WDATA. -/
theorem opcodeRows_mask_header : ∀ r ∈ opcodeRows, 0x3F00000000#38 &&& r.mask = r.mask := by decide

/-- Which rows a word selects does not depend on its WDATA. -/
theorem filter_selects_busWord (sel we : Bool) (addr : BitVec 4) (wdata : Word) :
    (opcodeRows.filter fun r => r.selects (busWord sel we addr wdata)) =
      opcodeRows.filter fun r => r.selects (busWord sel we addr 0) := by
  refine List.filter_congr fun r listed => ?_
  have on_header : busWord sel we addr wdata &&& r.mask = busWord sel we addr 0 &&& r.mask := by
    rw [← opcodeRows_mask_header r listed, ← BitVec.and_assoc, ← BitVec.and_assoc, busWord_and_fixedMask,
      busWord_and_fixedMask]
  rw [OpcodeRow.selects, OpcodeRow.selects, on_header]

theorem decodeWrite_mnemonic (addr : BitVec 4) (wdata : Word) :
    (decodeWrite addr wdata).mnemonic = (decodeWrite addr 0).mnemonic := by
  obtain ⟨⟨n, hn⟩⟩ := addr
  interval_cases n <;> rfl

/-- The mnemonic of the decoded operation does not depend on WDATA: a write's operand is no part of its name. -/
theorem decode_busWord_mnemonic (sel we : Bool) (addr : BitVec 4) (wdata : Word) :
    (decode (busWord sel we addr wdata)).mnemonic = (decode (busWord sel we addr 0)).mnemonic := by
  cases sel with
  | false => rw [decode_busWord_nop, decode_busWord_nop]
  | true =>
    cases we with
    | false => rw [decode_busWord_read, decode_busWord_read]
    | true => rw [decode_busWord_write, decode_busWord_write, decodeWrite_mnemonic]

/-- Each of the 64 headers selects the row of its operation and no other. -/
theorem header_selects_one_row (sel we : Bool) (addr : BitVec 4) :
    (opcodeRows.filter fun r => r.selects (busWord sel we addr 0)).map OpcodeRow.mnemonic =
      [(decode (busWord sel we addr 0)).mnemonic] := by
  revert sel we addr
  decide

/-- Settles O2: neither the selected rows nor the mnemonic depend on WDATA, and every header selects one row. -/
theorem everyWordSelectsOneTableRow : Obligations.EveryWordSelectsOneTableRow := by
  intro w
  rw [← busWord_fields w, filter_selects_busWord, decode_busWord_mnemonic]
  exact header_selects_one_row w.sel w.we w.addr

/-- Settles O5, each word by its kind. -/
theorem writtenOutWordsDecode : Obligations.WrittenOutWordsDecode :=
  ⟨decode_of_not_sel rfl, decode_of_not_sel rfl, decode_of_read rfl rfl, decode_of_read rfl rfl,
    decode_of_write rfl rfl, decode_of_write rfl rfl, decode_of_write rfl rfl, decode_of_write rfl rfl,
    decode_of_write rfl rfl, decode_of_write rfl rfl, decode_of_write rfl rfl, decode_of_read rfl rfl⟩

end Sys2Proof

namespace Sys2Proof.Machine

/-- Settles O3: SEL = 0 decides the operation alone, and NOP drives 0 on the bus and no more. -/
theorem wordWithSelZeroIsNop : Obligations.WordWithSelZeroIsNop :=
  ⟨fun _ sel => decode_of_not_sel sel, fun _ => rfl, rfl⟩

/-- Settles O4: the operation by SEL and WE, and the canonical words as their fields or-ed. -/
theorem readAndWriteWordsOfAnAddress : Obligations.ReadAndWriteWordsOfAnAddress := by
  refine ⟨fun w sel we => ?_, fun a => ?_, fun w sel we => decode_of_write sel we, fun a d => ?_, rfl, rfl⟩
  · have read : decode w = decodeRead w.addr := decode_of_read sel we
    exact ⟨read, fun s => by rw [read, exec_decodeRead]; rfl⟩
  · rw [encode_decodeRead, readWord_eq_or]
  · rw [encode_decodeWrite, writeWord_eq_or]

end Sys2Proof.Machine

/-! The proofs of the statements of 40_pulse_timer.md: what a step does by its pulse event (R75 to R86), progress
(R77), the timeout (R80, R81), and the revolution at a constant period (R87, R92). -/

namespace Sys2Proof.Machine

/-! ## The host's write and the pixel clock, after step 2 of a cycle -/

/-- The block has set this cause's flag in this cycle, so no acknowledgement of the cycle clears it (60_exceptions.md
R153, "set wins"). -/
def FlagRecorded (c : Cause) (s : State) : Prop :=
  stickyFlag c s.hb = true ∧ s.wires.setmask.getLsbD (causeBit c) = true

theorem flagRecorded_raise (c : Cause) (s : State) : FlagRecorded c (raise c s) := by
  refine ⟨?_, ?_⟩
  · rw [raise_hb, stickyFlag_setSticky]
    simp
  · rw [raise_wires, BitVec.getLsbD_or, causeMask_getLsbD]
    simp

/-- A cause raised later leaves a recorded flag recorded. -/
theorem FlagRecorded.keep_raise {c : Cause} {s : State} (h : FlagRecorded c s) (d : Cause) :
    FlagRecorded c (raise d s) := by
  obtain ⟨flag, mask⟩ := h
  refine ⟨?_, ?_⟩
  · rw [raise_hb, stickyFlag_setSticky, flag, Bool.or_true]
  · rw [raise_wires, BitVec.getLsbD_or, mask, Bool.true_or]

theorem FlagRecorded.keep_acknowledge {c : Cause} {s : State} (h : FlagRecorded c s) (d : Word) :
    FlagRecorded c (acknowledge d s) := by
  obtain ⟨flag, mask⟩ := h
  refine ⟨?_, mask⟩
  change stickyFlag c (clearSticky (clearMask d s.wires.setmask) s.hb) = true
  rw [stickyFlag_clearSticky, clearMask_getLsbD, flag, mask]
  simp

/-- What the host's write at the end of a cycle leaves: everything timed, the ports, and the flags set in the cycle. -/
structure HostWriteFrame (s t : State) : Prop where
  sync : t.sync = s.sync
  pt : t.pt = s.pt
  pc : t.pc = { s.pc with phaseOffset := t.pc.phaseOffset }
  dm : t.dm = s.dm
  wires : t.wires = { s.wires with setmask := t.wires.setmask }
  out : t.out = s.out
  inputs : t.inputs = s.inputs
  recorded : ∀ c, FlagRecorded c s → FlagRecorded c t

theorem endTransaction_frame {w : TxWord} {s t : State} (ht : endTransaction w s = .next t) : HostWriteFrame s t := by
  obtain ⟨u, hu, hcases⟩ := endTransaction_cases w s
  obtain rfl : u = t := Host.Outcome.next.inj (hu.symm.trans ht)
  rcases hcases with ⟨rfl, -⟩ | ⟨-, -, -, rfl⟩ | ⟨-, -, -, rfl⟩ | ⟨-, -, -, rfl⟩ | ⟨-, -, -, -, rfl⟩ |
    ⟨-, -, -, -, rfl⟩ | ⟨-, -, -, -, rfl⟩
  · exact ⟨rfl, rfl, rfl, rfl, rfl, rfl, rfl, fun _ h => h⟩
  · exact ⟨rfl, rfl, rfl, rfl, rfl, rfl, rfl, fun c ⟨flag, mask⟩ => ⟨by cases c <;> exact flag, mask⟩⟩
  · exact ⟨rfl, rfl, rfl, rfl, rfl, rfl, rfl, fun _ h => h.keep_acknowledge _⟩
  · exact ⟨rfl, rfl, rfl, rfl, rfl, rfl, rfl, fun _ h => h⟩
  · exact ⟨rfl, rfl, rfl, rfl, rfl, rfl, rfl, fun _ h => h⟩
  · exact ⟨rfl, rfl, rfl, rfl, rfl, rfl, rfl, fun _ h => h.keep_raise _⟩
  · exact ⟨rfl, rfl, rfl, rfl, rfl, rfl, rfl, fun _ h => h⟩

/-- The three things the pixel clock can do in a cycle whose step 2 leaves `s` and which ends in `t` (41_pixel_clock.md
R93, R94, R99, R102). -/
inductive ClockOutcome (s t : State) : Prop where
  | fires (due : s.wires.accepted = true ∨ (s.pt.syncValid = true ∧ s.pc.ctr.toNat ≤ 1))
      (tick : t.wires.tick = true) (acc : t.pc.acc = (nextInterval s.pc).1) (ctr : t.pc.ctr = (nextInterval s.pc).2)
      (tc : t.pc.tc = sat32 (s.pc.tc.toNat + 1))
  | holds (unaccepted : s.wires.accepted = false) (idle : s.pt.syncValid = false) (tick : t.wires.tick = false)
      (pc : t.pc = { s.pc with phaseOffset := t.pc.phaseOffset }) (dm : t.dm = s.dm)
  | counts (unaccepted : s.wires.accepted = false) (live : s.pt.syncValid = true) (running : 1 < s.pc.ctr.toNat)
      (tick : t.wires.tick = false)
      (pc : t.pc = { s.pc with ctr := s.pc.ctr - 1, phaseOffset := t.pc.phaseOffset })

/-- What the rest of a cycle makes of the state `s` that its step 2 leaves. -/
structure Clocked (s t : State) : Prop where
  sync : t.sync = s.sync
  pt : t.pt = s.pt
  target : t.pc.t = s.pc.t
  quotient : t.pc.q = s.pc.q
  remainder : t.pc.r = s.pc.r
  pulse : t.wires.pulse = s.wires.pulse
  accepted : t.wires.accepted = s.wires.accepted
  enterIdle : t.wires.enterIdle = s.wires.enterIdle
  out : t.out = s.out
  inputs : t.inputs = s.inputs
  recorded : ∀ c, FlagRecorded c s → FlagRecorded c t
  outcome : ClockOutcome s t

theorem ClockOutcome.hostWrite {s q t : State} (h : ClockOutcome s q) (w : HostWriteFrame q t) : ClockOutcome s t := by
  have tick : t.wires.tick = q.wires.tick := by rw [w.wires]
  cases h with
  | fires due ticks acc ctr tc =>
    exact .fires due (tick.trans ticks) (by rw [w.pc]; exact acc) (by rw [w.pc]; exact ctr) (by rw [w.pc]; exact tc)
  | holds unaccepted idle quiet pc dm =>
    exact .holds unaccepted idle (tick.trans quiet) (by rw [w.pc, pc]) (w.dm.trans dm)
  | counts unaccepted live running quiet pc =>
    exact .counts unaccepted live running (tick.trans quiet) (by rw [w.pc, pc])

theorem Clocked.hostWrite {s q t : State} (h : Clocked s q) (w : HostWriteFrame q t) : Clocked s t where
  sync := w.sync.trans h.sync
  pt := w.pt.trans h.pt
  target := by rw [w.pc]; exact h.target
  quotient := by rw [w.pc]; exact h.quotient
  remainder := by rw [w.pc]; exact h.remainder
  pulse := by rw [w.wires]; exact h.pulse
  accepted := by rw [w.wires]; exact h.accepted
  enterIdle := by rw [w.wires]; exact h.enterIdle
  out := w.out.trans h.out
  inputs := w.inputs.trans h.inputs
  recorded := fun c recorded => w.recorded c (h.recorded c recorded)
  outcome := h.outcome.hostWrite w

/-- Alignment writes P_IDX and ALIGNED only (41_pixel_clock.md R100). -/
theorem alignIndex_pc (s : State) :
    (alignIndex s).pc = { s.pc with pIdx := (alignIndex s).pc.pIdx, aligned := (alignIndex s).pc.aligned } := by
  unfold alignIndex
  split_ifs <;> rfl

/-- The arbiter records the frame start and the swap, and touches no other signal. -/
theorem arbitrate_wires (s : State) :
    (arbitrate s).wires =
      { s.wires with frameStart := (arbitrate s).wires.frameStart, setmask := (arbitrate s).wires.setmask } := by
  unfold arbitrate
  dsimp only
  split_ifs <;> rfl

theorem FlagRecorded.keep_arbitrate {c : Cause} {s : State} (h : FlagRecorded c s) : FlagRecorded c (arbitrate s) := by
  unfold arbitrate
  dsimp only
  split_ifs
  · exact FlagRecorded.keep_raise h _
  · exact h

theorem FlagRecorded.keep_alignIndex {c : Cause} {s : State} (h : FlagRecorded c s) :
    FlagRecorded c (alignIndex s) := by
  unfold FlagRecorded
  rw [alignIndex_hb, alignIndex_wires]
  exact h

/-- A tick after the pixel timer fired is the first outcome. -/
theorem execEvTick_clocked {s t : State}
    (due : s.wires.accepted = true ∨ (s.pt.syncValid = true ∧ s.pc.ctr.toNat ≤ 1))
    (ht : execEvTick (fireTick s) = .next t) : Clocked s t := by
  obtain ⟨d, n, -, rfl⟩ := execEvTick_next ht
  have pc : (beforeEmission (fireTick s)).pc = _ := (arbitrate_pc _).trans (alignIndex_pc (fireTick s))
  have wires := arbitrate_wires (alignIndex (fireTick s))
  rw [alignIndex_wires] at wires
  have recorded (c : Cause) (h : FlagRecorded c s) : FlagRecorded c (beforeEmission (fireTick s)) :=
    FlagRecorded.keep_arbitrate (FlagRecorded.keep_alignIndex (s := fireTick s) h)
  exact {
    sync := by simp [beforeEmission]
    pt := by simp [beforeEmission]
    target := (congrArg PixelClock.t pc :)
    quotient := (congrArg PixelClock.q pc :)
    remainder := (congrArg PixelClock.r pc :)
    pulse := (congrArg CycleWires.pulse wires :)
    accepted := (congrArg CycleWires.accepted wires :)
    enterIdle := (congrArg CycleWires.enterIdle wires :)
    out := by simp [beforeEmission]
    inputs := by simp [beforeEmission]
    recorded := recorded
    outcome := .fires due (congrArg CycleWires.tick wires :) (congrArg PixelClock.acc pc :)
      (congrArg PixelClock.ctr pc :) (congrArg (fun k : PixelClock => sat32 (k.tc.toNat + 1)) pc :) }

theorem pixelClockPart_clocked {s t : State} (ht : pixelClockPart s = .next t) : Clocked s t := by
  rcases pixelTimer_cases s with ⟨due, fires⟩ | ⟨unaccepted, idle, holds⟩ | ⟨unaccepted, live, running, counts⟩
  · rcases pixelClockPart_next ht with ⟨quiet, -⟩ | ⟨-, ticked⟩
    · rw [fires] at quiet
      exact absurd quiet.symm Bool.false_ne_true
    · rw [fires] at ticked
      exact execEvTick_clocked due ticked
  · rcases pixelClockPart_next ht with ⟨-, rfl⟩ | ⟨tick, -⟩
    · rw [holds]
      exact ⟨rfl, rfl, rfl, rfl, rfl, rfl, rfl, rfl, rfl, rfl, fun _ h => h, .holds unaccepted idle rfl rfl rfl⟩
    · rw [holds] at tick
      exact absurd tick Bool.false_ne_true
  · rcases pixelClockPart_next ht with ⟨-, rfl⟩ | ⟨tick, -⟩
    · rw [counts]
      exact ⟨rfl, rfl, rfl, rfl, rfl, rfl, rfl, rfl, rfl, rfl, fun _ h => h,
        .counts unaccepted live running rfl rfl⟩
    · rw [counts] at tick
      exact absurd tick Bool.false_ne_true

/-! ## The step, by its pulse event -/

/-- The state that step 2 of a running cycle starts from: ports driven, `sync_in` sampled. -/
def sampledStart (s : State) : State := synchronise (nextInput s).syncIn (cycleStart s)

@[simp] theorem sampledStart_pt (s : State) : (sampledStart s).pt = s.pt := rfl
@[simp] theorem sampledStart_pc (s : State) : (sampledStart s).pc = s.pc := rfl
@[simp] theorem sampledStart_wires (s : State) :
    (sampledStart s).wires = { CycleWires.clear with pulse := s.sync.syncQ && !s.sync.syncPrev } := rfl

theorem stateInv_sampledStart {s : State} (h : StateInv s) : StateInv (sampledStart s) :=
  stateInv_synchronise _ (stateInv_cycleStart h)

/-- A running step is its step 2 and the rest of its cycle. -/
theorem step_clocked {s t : State} (h : step s = .next t) (running : (nextInput s).rst = false) :
    ∃ p, pulseTimerPart (sampledStart s) = .next p ∧ Clocked p t := by
  obtain ⟨-, -, ⟨rst, -⟩ | ⟨-, p, q, hp, hq, ht⟩⟩ := step_next h
  · exact absurd (running.symm.trans rst) Bool.false_ne_true
  · exact ⟨p, hp, (pixelClockPart_clocked hq).hostWrite (endTransaction_frame ht)⟩

/-- Step 2 leaves the synchroniser, the ports, the inputs and the signal `pulse`. -/
theorem pulseTimerPart_frame {s p : State} (hp : pulseTimerPart s = .next p) :
    p.sync = s.sync ∧ p.out = s.out ∧ p.inputs = s.inputs ∧ p.wires.pulse = s.wires.pulse := by
  obtain ⟨u, hu, hcases⟩ := pulseTimerPart_cases s
  obtain rfl : u = p := Host.Outcome.next.inj (hu.symm.trans hp)
  rcases hcases with ⟨-, -, rfl⟩ | ⟨-, -, -, rfl⟩ | ⟨-, -, -, -, rfl⟩ | ⟨-, -, -, -, rfl⟩ | ⟨-, -, -, rfl⟩ |
    ⟨-, -, rfl⟩
  all_goals exact ⟨rfl, rfl, rfl, rfl⟩

/-- SYNCHRONISE over a whole running step: the shift of the samples, and the edge they show (40_pulse_timer.md R78). -/
theorem step_sync {s t : State} (h : step s = .next t) (running : (nextInput s).rst = false) :
    t.sync = { syncMeta := (nextInput s).syncIn, syncQ := s.sync.syncMeta, syncPrev := s.sync.syncQ } ∧
      t.wires.pulse = (s.sync.syncQ && !s.sync.syncPrev) ∧ t.inputs = s.inputs.tail := by
  obtain ⟨p, hp, clocked⟩ := step_clocked h running
  obtain ⟨sync, -, inputs, pulse⟩ := pulseTimerPart_frame hp
  exact ⟨clocked.sync.trans sync, clocked.pulse.trans pulse, clocked.inputs.trans inputs⟩

/-- The ports show the DAC registers of the start state, in every cycle (43_dac_mapper.md R121). -/
theorem step_dacPorts {s t : State} (h : step s = .next t) :
    t.out.dacR = s.dm.dacR ∧ t.out.dacG = s.dm.dacG ∧ t.out.dacB = s.dm.dacB := by
  have out : t.out = (cycleStart s).out := by
    obtain ⟨-, -, ⟨-, rfl⟩ | ⟨running, -⟩⟩ := step_next h
    · rfl
    · obtain ⟨p, hp, clocked⟩ := step_clocked h running
      obtain ⟨-, out, -, -⟩ := pulseTimerPart_frame hp
      exact clocked.out.trans out
  rw [out]
  exact ⟨rfl, rfl, rfl⟩

/-- No signal rises in a reset cycle. -/
theorem step_reset_wires {s t : State} (h : step s = .next t) (rst : (nextInput s).rst = true) :
    t.wires = CycleWires.clear := by
  obtain ⟨-, -, ⟨-, rfl⟩ | ⟨running, -⟩⟩ := step_next h
  · rfl
  · exact absurd (running.symm.trans rst) Bool.false_ne_true

/-- A pulse event is an edge between the last two samples of a running cycle (40_pulse_timer.md R78, R79). -/
theorem step_pulse_iff {s t : State} (h : step s = .next t) :
    t.wires.pulse = true ↔ (nextInput s).rst = false ∧ s.sync.syncQ = true ∧ s.sync.syncPrev = false := by
  cases rst : (nextInput s).rst
  · obtain ⟨-, pulse, -⟩ := step_sync h rst
    simp [pulse]
  · simp [step_reset_wires h rst, CycleWires.clear]

/-- The four classes of a pulse event, in the order of 40_pulse_timer.md R82, with the rest of the cycle. -/
inductive PulseCycle (s t : State) : Prop where
  | first (unarmed : s.pt.haveLast = false)
      (rest : Clocked { measure (sampledStart s) with
        pt := { (measure (sampledStart s)).pt with haveLast := true } } t)
  | short (armed : s.pt.haveLast = true) (under : (elapsedNext s).toNat < s.cfg.pMin)
      (rest : Clocked (takeSensorFault .short (measure (sampledStart s))) t)
  | long (armed : s.pt.haveLast = true) (lower : s.cfg.pMin ≤ (elapsedNext s).toNat)
      (past : s.cfg.pMax < (elapsedNext s).toNat)
      (rest : Clocked (takeSensorFault .long (measure (sampledStart s))) t)
  | accept (armed : s.pt.haveLast = true) (lower : s.cfg.pMin ≤ (elapsedNext s).toNat)
      (upper : (elapsedNext s).toNat ≤ s.cfg.pMax)
      (rest : Clocked (acceptPulse (elapsedNext s) s.pc.tc (measure (sampledStart s))) t)

/-- What a running cycle without a pulse event can do: the timeout or the plain count, with the rest of the cycle
(40_pulse_timer.md R80, R81). -/
inductive QuietCycle (s t : State) : Prop where
  | timeout (live : s.pt.syncValid = true) (past : s.cfg.pMax < (elapsedNext s).toNat)
      (rest : Clocked (takeSensorFault .timeout (countElapsed (sampledStart s))) t)
  | elapse (window : s.pt.syncValid = true → (elapsedNext s).toNat ≤ s.cfg.pMax)
      (rest : Clocked (countElapsed (sampledStart s)) t)

/-- A running step is a pulse cycle or a quiet cycle, as the signal `pulse` says. -/
theorem step_pulse_cases {s t : State} (h : step s = .next t) (running : (nextInput s).rst = false) :
    (t.wires.pulse = true ∧ PulseCycle s t) ∨ (t.wires.pulse = false ∧ QuietCycle s t) := by
  obtain ⟨p, hp, rest⟩ := step_clocked h running
  obtain ⟨-, -, -, pulse_p⟩ := pulseTimerPart_frame hp
  rw [rest.pulse, pulse_p]
  obtain ⟨u, hu, hcases⟩ := pulseTimerPart_cases (sampledStart s)
  obtain rfl : u = p := Host.Outcome.next.inj (hu.symm.trans hp)
  rcases hcases with ⟨pulse, unarmed, rfl⟩ | ⟨pulse, armed, under, rfl⟩ | ⟨pulse, armed, lower, past, rfl⟩ |
    ⟨pulse, armed, lower, upper, rfl⟩ | ⟨quiet, live, past, rfl⟩ | ⟨quiet, window, rfl⟩
  · exact .inl ⟨pulse, .first unarmed rest⟩
  · exact .inl ⟨pulse, .short armed under rest⟩
  · exact .inl ⟨pulse, .long armed lower past rest⟩
  · exact .inl ⟨pulse, .accept armed lower upper rest⟩
  · exact .inr ⟨quiet, .timeout live past rest⟩
  · exact .inr ⟨quiet, .elapse window rest⟩

theorem step_pulseCycle {s t : State} (h : step s = .next t) (running : (nextInput s).rst = false)
    (pulse : t.wires.pulse = true) : PulseCycle s t := by
  rcases step_pulse_cases h running with ⟨-, cycle⟩ | ⟨quiet, -⟩
  · exact cycle
  · exact absurd (quiet.symm.trans pulse) Bool.false_ne_true

theorem step_quietCycle {s t : State} (h : step s = .next t) (running : (nextInput s).rst = false)
    (quiet : t.wires.pulse = false) : QuietCycle s t := by
  rcases step_pulse_cases h running with ⟨pulse, -⟩ | ⟨-, cycle⟩
  · exact absurd (quiet.symm.trans pulse) Bool.false_ne_true
  · exact cycle

/-! ## Progress -/

/-- Step 2 leaves P_IDX. -/
theorem pulseTimerPart_pIdx {s p : State} (hp : pulseTimerPart s = .next p) : p.pc.pIdx = s.pc.pIdx := by
  obtain ⟨u, hu, hcases⟩ := pulseTimerPart_cases s
  obtain rfl : u = p := Host.Outcome.next.inj (hu.symm.trans hp)
  rcases hcases with ⟨-, -, rfl⟩ | ⟨-, -, -, rfl⟩ | ⟨-, -, -, -, rfl⟩ | ⟨-, -, -, -, rfl⟩ | ⟨-, -, -, rfl⟩ |
    ⟨-, -, rfl⟩
  all_goals rfl

/-- No part of a running cycle stops while P_IDX is in the frame. -/
theorem runningCycle_exists {s : State} (i : CycleInput) (hn : 0 < s.cfg.n) (h : s.pc.pIdx.toNat < s.cfg.n) :
    ∃ t, runningCycle i s = .next t := by
  obtain ⟨p, hp, -⟩ := pulseTimerPart_cases (synchronise i.syncIn s)
  have cfg : p.cfg = s.cfg := (pulseTimerPart_cfg hp :)
  have pIdx : p.pc.pIdx = s.pc.pIdx := (pulseTimerPart_pIdx hp :)
  obtain ⟨q, hq⟩ := pixelClockPart_exists (s := p) (cfg ▸ hn) (by rw [cfg, pIdx]; exact h)
  obtain ⟨t, ht, -⟩ := endTransaction_cases i.word q
  exact ⟨t, by rw [runningCycle, hp, andThen_next, hq, andThen_next, ht]⟩

/-- Settles O53: the invariant keeps P_IDX in the frame, which is all that a cycle can stop at. -/
theorem stepNeverStops : Obligations.StepNeverStops := by
  intro s h
  have hn := h.legal.n_bounds
  rw [step_eq_cycle h.legal (.inl h.launched)]
  split_ifs
  · exact ⟨_, rfl⟩
  · exact runningCycle_exists _ (show 0 < s.cfg.n by omega) h.facts.pIdx_lt

/-! ## Quiet runs -/

/-- A quiet run is a shorter one and the rest of it. -/
theorem quietRun_add {j k : Nat} {s t : State} (h : quietRun (j + k) s t) : ∃ m, quietRun j s m ∧ quietRun k m t := by
  induction j generalizing s with
  | zero => exact ⟨s, rfl, Nat.zero_add k ▸ h⟩
  | succ j ih =>
    rw [Nat.succ_add] at h
    obtain ⟨m, hm, running, quiet, rest⟩ := h
    obtain ⟨n, first, last⟩ := ih rest
    exact ⟨n, ⟨m, hm, running, quiet, first⟩, last⟩

theorem quietRun_one {s t : State} (h : quietRun 1 s t) :
    step s = .next t ∧ (nextInput s).rst = false ∧ t.wires.pulse = false := by
  obtain ⟨m, hm, running, quiet, rfl⟩ := h
  exact ⟨hm, running, quiet⟩

theorem quietRun_stateInv {k : Nat} {s t : State} (h : StateInv s) (run : quietRun k s t) : StateInv t := by
  induction k generalizing s with
  | zero => exact run ▸ h
  | succ k ih =>
    obtain ⟨m, hm, -, -, rest⟩ := run
    exact ih (step_stateInv h hm) rest

/-! ## The tick law (41_pixel_clock.md R96)

Tick number j of a revolution falls floor(j·PERIOD / T) cycles after its accepted pulse. -/

/-- An interval is PERIOD / T cycles, up to what ACC carries over (41_pixel_clock.md R94, R95). -/
theorem StateInv.nextInterval_sum {s : State} (h : StateInv s) :
    s.pc.t.toNat * (nextInterval s.pc).2.toNat + (nextInterval s.pc).1.toNat = s.pt.period.toNat + s.pc.acc.toNat := by
  have ht := s.pc.t.isLt
  have hr := h.facts.r_lt
  have ha := h.facts.acc_lt
  have period : s.pc.t.toNat * s.pc.q.toNat + s.pc.r.toNat = s.pt.period.toNat := by
    rw [h.q_eq, h.r_eq]
    exact Nat.div_add_mod _ _
  have longer : s.pc.t.toNat * (s.pc.q + 1).toNat = s.pc.t.toNat * s.pc.q.toNat + s.pc.t.toNat := by
    rw [BitVec.toNat_add_of_lt h.q_succ_lt]
    exact Nat.mul_succ _ _
  unfold nextInterval
  dsimp only
  split_ifs with carry
  · dsimp only
    rw [toNat_ofNat_of_fits (by omega), longer]
    omega
  · dsimp only
    rw [toNat_ofNat_of_fits (by omega)]
    omega

/-- Where the pixel clock stands `k` cycles after an accepted pulse: TC counts the ticks so far, the one at the pulse
included, so the next is tick number TC and comes at floor(TC·PERIOD / T), with ACC the remainder; and the last one came
at floor((TC − 1)·PERIOD / T), which is not later than now. -/
structure TickLaw (k : Nat) (period : Word) (pc : PixelClock) : Prop where
  tc_pos : 1 ≤ pc.tc.toNat
  next_tick : pc.tc.toNat * period.toNat = pc.t.toNat * (k + pc.ctr.toNat) + pc.acc.toNat
  last_tick : (pc.tc.toNat - 1) * period.toNat < pc.t.toNat * (k + 1)

/-- T ≤ PERIOD while live, as Q ≥ 1. -/
theorem StateInv.target_le_period {s : State} (h : StateInv s) (live : s.pt.syncValid = true) :
    s.pc.t.toNat ≤ s.pt.period.toNat := by
  have q_pos : 1 ≤ s.pt.period.toNat / s.pc.t.toNat := h.q_eq ▸ h.facts.live_q live
  have t_pos : 0 < s.pc.t.toNat := (Nat.zero_le _).trans_lt h.facts.r_lt
  exact (Nat.one_le_div_iff t_pos).mp q_pos

/-- At most one tick a cycle. -/
theorem TickLaw.tc_le {k : Nat} {s : State} (law : TickLaw k s.pt.period s.pc) (h : StateInv s)
    (live : s.pt.syncValid = true) : s.pc.tc.toNat ≤ k + 1 := by
  have t_le := h.target_le_period live
  have bound : s.pc.t.toNat * (s.pc.tc.toNat - 1) < s.pc.t.toNat * (k + 1) :=
    calc s.pc.t.toNat * (s.pc.tc.toNat - 1)
        = (s.pc.tc.toNat - 1) * s.pc.t.toNat := Nat.mul_comm _ _
      _ ≤ (s.pc.tc.toNat - 1) * s.pt.period.toNat := Nat.mul_le_mul_left _ t_le
      _ < s.pc.t.toNat * (k + 1) := law.last_tick
  have := Nat.lt_of_mul_lt_mul_left bound
  omega

/-- A live cycle without an accepted pulse keeps the tick law: a tick uses up CTR and re-arms it for the next, and any
other cycle moves one cycle from CTR to the time passed. -/
theorem TickLaw.clocked {k : Nat} {s t : State} (law : TickLaw k s.pt.period s.pc) (h : StateInv s)
    (live : s.pt.syncValid = true) (unaccepted : s.wires.accepted = false) (room : k + 2 < 2 ^ 32)
    (rest : Clocked s t) : TickLaw (k + 1) t.pt.period t.pc := by
  have tc_pos := law.tc_pos
  have next_tick := law.next_tick
  have last_tick := law.last_tick
  rw [rest.pt]
  cases rest.outcome with
  | fires due tick acc ctr tc =>
    have due : s.pc.ctr.toNat ≤ 1 := by
      rcases due with accepted | ⟨-, due⟩
      · exact absurd (unaccepted.symm.trans accepted) Bool.false_ne_true
      · exact due
    have ctr_one : s.pc.ctr.toNat = 1 := Nat.le_antisymm due (h.facts.live_ctr live)
    have tc_le := law.tc_le h live
    have tc_next : t.pc.tc.toNat = s.pc.tc.toNat + 1 := by
      rw [tc, sat32_toNat]
      omega
    have interval := h.nextInterval_sum
    have acc_lt := h.facts.acc_lt
    rw [ctr_one] at next_tick
    refine ⟨by omega, ?_, ?_⟩
    · rw [tc_next, acc, ctr, rest.target]
      linarith
    · rw [tc_next, rest.target, Nat.add_sub_cancel, next_tick]
      linarith
  | holds _ idle => exact absurd (idle.symm.trans live) Bool.false_ne_true
  | counts _ _ running tick pc =>
    rw [pc]
    have down : (s.pc.ctr - 1).toNat = s.pc.ctr.toNat - 1 := BitVec.toNat_sub_of_le (BitVec.le_def.mpr running.le)
    refine ⟨tc_pos, ?_, ?_⟩
    · have same : k + 1 + (s.pc.ctr.toNat - 1) = k + s.pc.ctr.toNat := by omega
      simpa only [down, same] using next_tick
    · exact last_tick.trans_le (Nat.mul_le_mul_left _ (by omega))

/-! ## The window after an accepted pulse -/

/-- An accepted pulse: its period is a plausible one, and step 2 leaves what PULSE.ACCEPT says (40_pulse_timer.md
R86). -/
theorem step_accepted {s t : State} (h : step s = .next t) (accepted : t.wires.accepted = true) :
    s.pt.haveLast = true ∧ s.cfg.pMin ≤ (elapsedNext s).toNat ∧ (elapsedNext s).toNat ≤ s.cfg.pMax ∧
      Clocked (acceptPulse (elapsedNext s) s.pc.tc (measure (sampledStart s))) t := by
  cases rst : (nextInput s).rst with
  | true =>
    rw [step_reset_wires h rst] at accepted
    exact absurd accepted Bool.false_ne_true
  | false =>
    have no_accept {p : State} (rest : Clocked p t) (unaccepted : p.wires.accepted = false) : False :=
      Bool.false_ne_true (unaccepted.symm.trans (rest.accepted.symm.trans accepted))
    rcases step_pulse_cases h rst with ⟨-, cycle⟩ | ⟨-, cycle⟩
    · cases cycle with
      | first _ rest => exact (no_accept rest rfl).elim
      | short _ _ rest => exact (no_accept rest rfl).elim
      | long _ _ _ rest => exact (no_accept rest rfl).elim
      | accept armed lower upper rest => exact ⟨armed, lower, upper, rest⟩
    · cases cycle with
      | timeout _ _ rest => exact (no_accept rest rfl).elim
      | elapse _ rest => exact (no_accept rest rfl).elim

/-- The state `t`, `k` quiet cycles after the accepted pulse of the cycle that ended in `c`, within the window. -/
structure InWindow (c : State) (k : Nat) (t : State) : Prop where
  inv : StateInv t
  cfg : t.cfg = c.cfg
  pt : t.pt = { c.pt with e := t.pt.e }
  target : t.pc.t = c.pc.t
  elapsed : t.pt.e.toNat = k
  live : t.pt.syncValid = true
  noIdle : t.wires.enterIdle = false
  ticks : TickLaw k t.pt.period t.pc

theorem inWindow_of_accepted {s c : State} (inv : StateInv s) (h : step s = .next c)
    (accepted : c.wires.accepted = true) : InWindow c 0 c := by
  obtain ⟨armed, lower, upper, rest⟩ := step_accepted h accepted
  -- Step 2 leaves the invariant but for CTR, which the pixel timer re-arms without reading it.
  have timed : StateInv (withTickDue (acceptPulse (elapsedNext s) s.pc.tc (measure (sampledStart s)))) :=
    stateInv_acceptPulse _ (stateInv_measure (stateInv_sampledStart inv)) armed lower upper rfl
  have interval := timed.nextInterval_sum
  have t_pos : 0 < (withTickDue (acceptPulse (elapsedNext s) s.pc.tc (measure (sampledStart s)))).pc.t.toNat :=
    (Nat.zero_le _).trans_lt timed.facts.r_lt
  refine ⟨step_stateInv inv h, rfl, rfl, rfl, by rw [rest.pt]; rfl, by rw [rest.pt]; rfl, rest.enterIdle, ?_⟩
  cases rest.outcome with
  | fires _ _ acc ctr tc =>
    have tc_one : c.pc.tc.toNat = 1 := by
      rw [tc, sat32_toNat]
      rfl
    refine ⟨by omega, ?_, ?_⟩
    · rw [tc_one, rest.pt, rest.target, acc, ctr, Nat.one_mul, Nat.zero_add]
      exact interval.symm
    · rw [tc_one, rest.target, Nat.sub_self, Nat.zero_mul, Nat.zero_add, Nat.mul_one]
      exact t_pos
  | holds unaccepted => exact absurd unaccepted.symm Bool.false_ne_true
  | counts unaccepted => exact absurd unaccepted.symm Bool.false_ne_true

/-- What a pulse event in the next cycle would measure (40_pulse_timer.md R82). -/
theorem InWindow.measured {c t : State} {k : Nat} (h : InWindow c k t) (room : k + 1 < 2 ^ 32) :
    (elapsedNext t).toNat = k + 1 := by
  rw [elapsedNext_toNat, h.elapsed]
  omega

/-- A quiet cycle up to the window's end keeps the block live. -/
theorem InWindow.next {c s t : State} {k : Nat} (win : InWindow c k s) (h : step s = .next t)
    (running : (nextInput s).rst = false) (quiet : t.wires.pulse = false) (room : k + 1 ≤ c.cfg.pMax) :
    InWindow c (k + 1) t := by
  have hmax := win.inv.legal.pMax_lt
  rw [win.cfg] at hmax
  have elapsed := win.measured (by omega)
  cases step_quietCycle h running quiet with
  | timeout _ past =>
    rw [elapsed, win.cfg] at past
    omega
  | elapse window rest =>
    refine ⟨step_stateInv win.inv h, (step_cfg h).trans win.cfg, ?_, rest.target.trans win.target, ?_, ?_,
      rest.enterIdle, ?_⟩
    · rw [rest.pt, countElapsed_pt, sampledStart_pt, win.pt]
    · rw [rest.pt]
      exact elapsed
    · rw [rest.pt]
      exact win.live
    · exact TickLaw.clocked (s := countElapsed (sampledStart s)) win.ticks
        (stateInv_countElapsed (stateInv_sampledStart win.inv) window) win.live rfl (by omega) rest

theorem InWindow.run {c s t : State} {j k : Nat} (win : InWindow c j s) (run : quietRun k s t)
    (room : j + k ≤ c.cfg.pMax) : InWindow c (j + k) t := by
  induction k generalizing s j with
  | zero => exact run ▸ win
  | succ k ih =>
    obtain ⟨m, hm, running, quiet, rest⟩ := run
    have next : InWindow c (j + 1) m := win.next hm running quiet (by omega)
    have last : InWindow c (j + 1 + k) t := ih next rest (by omega)
    rwa [Nat.add_right_comm, Nat.add_assoc] at last

/-! ## The timeout, and the idle block -/

theorem flagRecorded_takeSensorFault (c : Cause) (s : State) : FlagRecorded c (takeSensorFault c s) :=
  flagRecorded_raise c s

/-- The first quiet cycle past the window is the timeout (40_pulse_timer.md R81). -/
theorem InWindow.timeout {c s t : State} (win : InWindow c c.cfg.pMax s) (h : step s = .next t)
    (running : (nextInput s).rst = false) (quiet : t.wires.pulse = false) :
    t.hb.fTimeout = true ∧ t.wires.enterIdle = true ∧ t.pt.syncValid = false := by
  have hmax := win.inv.legal.pMax_lt
  rw [win.cfg] at hmax
  have elapsed := win.measured hmax
  cases step_quietCycle h running quiet with
  | timeout _ _ rest =>
    obtain ⟨flag, -⟩ := rest.recorded .timeout (flagRecorded_takeSensorFault _ _)
    exact ⟨flag, rest.enterIdle, by rw [rest.pt]; rfl⟩
  | elapse window =>
    have := window win.live
    rw [elapsed, win.cfg] at this
    omega

/-- An idle block is unaligned and blank (10_state.md R30). -/
theorem StateInv.idle_unaligned_blank {s : State} (h : StateInv s) (idle : s.pt.syncValid = false) :
    s.pc.aligned = false ∧ s.dm = blankDac := by
  refine ⟨?_, h.facts.idle_blank idle⟩
  cases aligned : s.pc.aligned with
  | false => rfl
  | true => exact absurd (idle.symm.trans (h.facts.aligned_live aligned)) Bool.false_ne_true

/-- A quiet cycle of an idle block: it stays idle, without an idle entry and without a tick (41_pixel_clock.md R98). -/
theorem step_idle_quiet {s t : State} (h : step s = .next t) (running : (nextInput s).rst = false)
    (quiet : t.wires.pulse = false) (idle : s.pt.syncValid = false) :
    t.pt.syncValid = false ∧ t.wires.enterIdle = false ∧ t.wires.tick = false := by
  cases step_quietCycle h running quiet with
  | timeout live => exact absurd (idle.symm.trans live) Bool.false_ne_true
  | elapse _ rest =>
    refine ⟨by rw [rest.pt]; exact idle, rest.enterIdle, ?_⟩
    cases rest.outcome with
    | holds _ _ tick => exact tick
    | counts _ live => exact absurd (idle.symm.trans live) Bool.false_ne_true
    | fires due =>
      rcases due with accepted | ⟨live, -⟩
      · exact absurd accepted Bool.false_ne_true
      · exact absurd (idle.symm.trans live) Bool.false_ne_true

theorem quietRun_idle {k : Nat} {s t : State} (idle : s.pt.syncValid = false) (run : quietRun k s t) :
    t.pt.syncValid = false := by
  induction k generalizing s with
  | zero => exact run ▸ idle
  | succ k ih =>
    obtain ⟨m, hm, running, quiet, rest⟩ := run
    obtain ⟨still_idle, -, -⟩ := step_idle_quiet hm running quiet idle
    exact ih still_idle rest

/-- The timeout comes in cycle P_MAX + 1 after the accepted pulse. -/
theorem InWindow.timeout_of_run {c t : State} (win : InWindow c 0 c) (run : quietRun (c.cfg.pMax + 1) c t) :
    t.hb.fTimeout = true ∧ t.wires.enterIdle = true ∧ t.pt.syncValid = false := by
  obtain ⟨m, before, last⟩ := quietRun_add run
  obtain ⟨hm, running, quiet⟩ := quietRun_one last
  have at_end : InWindow c (0 + c.cfg.pMax) m := win.run before (Nat.zero_add _).le
  rw [Nat.zero_add] at at_end
  exact at_end.timeout hm running quiet

/-- The ports of a cycle that starts with blank DAC registers are blank, whatever its inputs. -/
theorem step_blankPorts {s t : State} (h : step s = .next t) (blank : s.dm = blankDac) :
    t.out.dacR = 0 ∧ t.out.dacG = 0 ∧ t.out.dacB = 0 := by
  have ports := step_dacPorts h
  rw [blank] at ports
  exact ports

/-- Settles O21: the window, its timeout, and the idle block after it. -/
theorem timeoutComesAfterTheWindow : Obligations.TimeoutComesAfterTheWindow := by
  intro s c t k inv h accepted run
  have win : InWindow c 0 c := inWindow_of_accepted inv h accepted
  refine ⟨fun inside => ?_, ?_, fun after => ?_⟩
  · have at_k : InWindow c (0 + k) t := win.run run (by omega)
    rw [Nat.zero_add] at at_k
    exact ⟨at_k.live, at_k.elapsed, at_k.noIdle⟩
  · rintro rfl
    obtain ⟨flag, entry, idle⟩ := win.timeout_of_run run
    obtain ⟨unaligned, blank⟩ := (quietRun_stateInv win.inv run).idle_unaligned_blank idle
    exact ⟨flag, entry, idle, unaligned, blank, fun u hu => step_blankPorts hu blank⟩
  · obtain ⟨d, rfl⟩ : ∃ d, k = c.cfg.pMax + 1 + d + 1 := Nat.exists_eq_add_of_lt after
    obtain ⟨m, before, last⟩ := quietRun_add run
    obtain ⟨hm, running, quiet⟩ := quietRun_one last
    obtain ⟨n, to_timeout, idling⟩ := quietRun_add before
    obtain ⟨-, -, idle_n⟩ := win.timeout_of_run to_timeout
    have idle_m : m.pt.syncValid = false := quietRun_idle idle_n idling
    have inv_m : StateInv m := quietRun_stateInv win.inv before
    obtain ⟨idle, noEntry, noTick⟩ := step_idle_quiet hm running quiet idle_m
    obtain ⟨unaligned, blank⟩ := (step_stateInv inv_m hm).idle_unaligned_blank idle
    obtain ⟨-, blank_m⟩ := inv_m.idle_unaligned_blank idle_m
    exact ⟨noEntry, noTick, idle, unaligned, blank, step_blankPorts hm blank_m⟩

/-! ## A revolution at a constant period -/

/-- The target of an accepted pulse is that of its error (40_pulse_timer.md R88). -/
theorem step_accepted_target {s c : State} (h : step s = .next c) (accepted : c.wires.accepted = true) :
    c.pc.t = targetFor s.cfg c.pt.err := by
  obtain ⟨-, -, -, rest⟩ := step_accepted h accepted
  rw [rest.target, rest.pt]
  rfl

/-- No error, no correction: T = N (40_pulse_timer.md R92). -/
theorem targetFor_zero_toNat {c : Config} (hc : c.Legal) : (targetFor c 0).toNat = c.n := by
  have target := targetFor_toNat hc 0
  have zero : clampInt (0 : Word).toInt (-c.eMax) c.eMax = 0 := by
    show max (-(c.eMax : Int)) (min c.eMax 0) = 0
    omega
  omega

/-- In the last cycle of a period T ticks have fired (41_pixel_clock.md R96). -/
theorem TickLaw.tc_at_period {period : Word} {pc : PixelClock} (law : TickLaw (period.toNat - 1) period pc)
    (period_pos : 0 < period.toNat) (ctr_pos : 1 ≤ pc.ctr.toNat) : pc.tc.toNat = pc.t.toNat := by
  have tc_pos := law.tc_pos
  have last_tick := law.last_tick
  rw [Nat.sub_add_cancel period_pos] at last_tick
  have below : pc.tc.toNat - 1 < pc.t.toNat := Nat.lt_of_mul_lt_mul_right last_tick
  have above : pc.t.toNat * period.toNat ≤ pc.tc.toNat * period.toNat :=
    calc pc.t.toNat * period.toNat
        ≤ pc.t.toNat * (period.toNat - 1 + pc.ctr.toNat) := Nat.mul_le_mul_left _ (by omega)
      _ ≤ pc.tc.toNat * period.toNat := law.next_tick ▸ Nat.le_add_right _ _
  have := Nat.le_of_mul_le_mul_right above period_pos
  omega

/-- Settles O26: in the window's cycle before the second pulse, TC is T = N, so ERR stays 0. -/
theorem steadyPeriodEmitsExactlyN : Obligations.SteadyPeriodEmitsExactlyN := by
  intro s c t u inv h accepted err run hu running pulse
  have start : InWindow c 0 c := inWindow_of_accepted inv h accepted
  have hmin := start.inv.legal.span_le_pMin
  have hmax := start.inv.legal.pMax_lt
  have hn := start.inv.legal.n_bounds
  obtain ⟨lower, upper⟩ : c.cfg.pMin ≤ c.pt.period.toNat ∧ c.pt.period.toNat ≤ c.cfg.pMax :=
    start.inv.period_ok.resolve_left (start.inv.live_period start.live)
  have target : c.pc.t.toNat = c.cfg.n := by
    rw [step_accepted_target h accepted, ← step_cfg h, err]
    exact targetFor_zero_toNat start.inv.legal
  have last : InWindow c (0 + (c.pt.period.toNat - 1)) t := start.run run (by omega)
  rw [Nat.zero_add] at last
  have period : t.pt.period = c.pt.period := by rw [last.pt]
  have err_t : t.pt.err = 0 := by rw [last.pt]; exact err
  have armed : t.pt.haveLast = true := last.inv.facts.live_armed last.live
  have ticks : t.pc.tc.toNat = c.cfg.n := by
    rw [← target, ← last.target]
    exact TickLaw.tc_at_period (period ▸ last.ticks) (by omega) (last.inv.facts.live_ctr last.live)
  have measured : elapsedNext t = c.pt.period :=
    BitVec.eq_of_toNat_eq ((last.measured (by omega)).trans (by omega))
  cases step_pulseCycle hu running pulse with
  | first unarmed => exact absurd (unarmed.symm.trans armed) Bool.false_ne_true
  | short _ under =>
    rw [measured, last.cfg] at under
    omega
  | long _ _ past =>
    rw [measured, last.cfg] at past
    omega
  | accept _ _ _ rest =>
    have err_u : u.pt.err = 0 := by
      rw [rest.pt]
      show (if t.pt.syncValid then satS32 (t.pt.err.toInt + t.cfg.n - t.pc.tc.toNat) else 0) = 0
      rw [if_pos last.live, err_t, ticks, last.cfg]
      simp [satS32]
    have accepted_u : u.wires.accepted = true := rest.accepted
    refine ⟨accepted_u, ?_, ?_, err_u, ?_⟩
    · rw [rest.pt]
      exact measured
    · rw [rest.pt]
      exact ticks
    · rw [step_accepted_target hu accepted_u, err_u, last.cfg]
      exact targetFor_zero_toNat start.inv.legal

/-! ## The edge detector (R78, R79) -/

/-- A running cycle from a state of the invariant, under the input that its list presents. -/
theorem step_presented {s : State} {i : CycleInput} {rest : List CycleInput} (inv : StateInv s)
    (presented : s.inputs = i :: rest) (running : i.rst = false) :
    ∃ t, step s = .next t ∧ StateInv t ∧ t.inputs = rest ∧
      t.sync = { syncMeta := i.syncIn, syncQ := s.sync.syncMeta, syncPrev := s.sync.syncQ } ∧
      t.wires.pulse = (s.sync.syncQ && !s.sync.syncPrev) := by
  obtain ⟨t, ht⟩ := stepNeverStops s inv
  have input : nextInput s = i := by rw [nextInput, presented]
  obtain ⟨sync, pulse, inputs⟩ := step_sync ht (input ▸ running)
  rw [input] at sync
  rw [presented] at inputs
  exact ⟨t, ht, step_stateInv inv ht, inputs, sync, pulse⟩

/-- Settles O13: the samples of the first two cycles stand in SYNC_PREV and SYNC_Q when the fourth begins; and a pulse
event leaves SYNC_PREV at 1. -/
theorem pulseEventTwoCyclesAfterEdge : Obligations.PulseEventTwoCyclesAfterEdge := by
  refine ⟨fun s x0 x1 x2 x3 w0 w1 w2 w3 rest inv presented => ?_, fun s t u ht pulse hu => ?_⟩
  · obtain ⟨s1, h1, inv1, inputs1, sync1, -⟩ := step_presented inv presented rfl
    obtain ⟨s2, h2, inv2, inputs2, sync2, -⟩ := step_presented inv1 inputs1 rfl
    obtain ⟨s3, h3, inv3, inputs3, sync3, -⟩ := step_presented inv2 inputs2 rfl
    obtain ⟨s4, h4, -, -, -, pulse⟩ := step_presented inv3 inputs3 rfl
    have pulse : s4.wires.pulse = (x1 && !x0) := by rw [pulse, sync3, sync2, sync1]
    refine ⟨s4, by simp only [runCycles, h1, h2, h3, h4, andThen_next], ?_⟩
    rw [pulse, Bool.and_eq_true, Bool.not_eq_true', and_comm]
  · obtain ⟨running, edge, -⟩ := (step_pulse_iff ht).mp pulse
    obtain ⟨sync, -, -⟩ := step_sync ht running
    have seen : t.sync.syncPrev = true := by rw [sync]; exact edge
    refine Bool.eq_false_iff.mpr fun again => ?_
    obtain ⟨-, -, unseen⟩ := (step_pulse_iff hu).mp again
    exact Bool.false_ne_true (unseen.symm.trans seen)

/-! ## The FPS estimate (R90) -/

/-- A shifted number lies between 0 and the number itself, whichever way it rounds (00_scope.md R14). -/
theorem asr_bounds (x : Int) (k : Nat) : min 0 x ≤ asr x k ∧ asr x k ≤ max 0 x := by
  have pow_pos : (0 : Int) < 2 ^ k := by positivity
  rw [asr_eq_floor]
  rcases lt_or_ge x 0 with neg | nonneg
  · have below : x / 2 ^ k < 0 := Int.ediv_neg_of_neg_of_pos neg pow_pos
    have above : x ≤ x / 2 ^ k := (Int.le_ediv_iff_mul_le pow_pos).mpr (by nlinarith)
    omega
  · have above : 0 ≤ x / 2 ^ k := Int.ediv_nonneg nonneg pow_pos.le
    have below : x / 2 ^ k ≤ x := Int.ediv_le_self _ nonneg
    omega

/-- The smoothed estimate fits its word: it is no wrap of R90's number. -/
theorem smoothFps_toNat (c : Config) (fps p : Word) :
    ((smoothFps c fps p).toNat : Int) = fps.toNat + asr ((instantRate c p).toNat - fps.toNat) c.fpsShift := by
  have bounds := asr_bounds ((instantRate c p).toNat - fps.toNat) c.fpsShift
  have fps_lt := fps.isLt
  have rate_lt := (instantRate c p).isLt
  unfold smoothFps
  rw [BitVec.toNat_ofInt, Int.emod_eq_of_lt (by omega) (by omega)]
  exact Int.toNat_of_nonneg (by omega)

/-- Settles O17: the step of the estimate is a shifted difference, which stays between 0 and the difference. -/
theorem fpsEstimateStaysBetween : Obligations.FpsEstimateStaysBetween := by
  intro c fps p _
  have smoothed := smoothFps_toNat c fps p
  have bounds := asr_bounds ((instantRate c p).toNat - fps.toNat) c.fpsShift
  refine ⟨by omega, by omega, fun unshifted => ?_⟩
  rw [unshifted, asr_eq_floor, pow_zero, Int.ediv_one] at smoothed
  exact BitVec.eq_of_toNat_eq (by omega)

/-! ## The pulse events one by one (R80 to R90) -/

/-- Settles O14. -/
theorem firstPulseOnlyArms : Obligations.FirstPulseOnlyArms :=
  fun _ => rfl

/-- Settles O15: both classes take their sensor fault on what every pulse measures. -/
theorem rejectedPulseSetsItsFlagAndIdles : Obligations.RejectedPulseSetsItsFlagAndIdles :=
  fun _ => ⟨rfl, rfl⟩

/-- Settles O18: the elapsed count decides between the timeout and the plain count. -/
theorem elapseCountsAndTimesOut : Obligations.ElapseCountsAndTimesOut := by
  refine ⟨fun s => rfl, fun s => ⟨elapsedNext s, elapsedNext_toNat s, ?_⟩⟩
  have due : timeoutDue (countElapsed s) = true ↔ s.pt.syncValid = true ∧ s.cfg.pMax < (elapsedNext s).toNat := by
    simp [timeoutDue]
  change (if timeoutDue (countElapsed s) then execEvTimeout (countElapsed s) else .next (countElapsed s)) = _
  by_cases past : s.pt.syncValid = true ∧ s.cfg.pMax < (elapsedNext s).toNat
  · rw [if_pos (due.mpr past), if_pos past]
    rfl
  · rw [if_neg (mt due.mp past), if_neg past]
    rfl

/-- Settles O19: P_MAX is below the saturated count. -/
theorem saturatedElapsedIsLong : Obligations.SaturatedElapsedIsLong := by
  intro s hc saturated
  have stays : (elapsedNext s).toNat = 2 ^ 32 - 1 := by
    rw [elapsedNext_toNat, saturated]
    rfl
  have hmax := hc.pMax_lt
  obtain ⟨-, -, ⟨-, hle⟩, -, -, -, -⟩ := hc
  refine ⟨stays, fun armed => ?_⟩
  rw [pulseClass, if_neg (by simp [armed]), if_neg (by omega), if_pos (by omega)]

/-- Settles O16, register by register. -/
theorem acceptedPulseRetimesThePixelClock : Obligations.AcceptedPulseRetimesThePixelClock := by
  rintro s p hc rfl
  have measured := elapsedNext_toNat s
  have hE := hc.eMax_lt
  have bounds := retargeted_bounds (s := measure s) hc s.pc.tc
  have t_pos : 0 < (retargeted s.pc.tc (measure s)).pc.t.toNat := by
    simp only [measure_cfg] at bounds
    omega
  refine ⟨acceptPulse (elapsedNext s) s.pc.tc (measure s), rfl, measured, ?_, targetFor_toNat hc _, ?_, ?_, ?_, rfl⟩
  · change (if s.pt.syncValid then satS32 (s.pt.err.toInt + s.cfg.n - s.pc.tc.toNat) else 0 : Word).toInt = _
    split_ifs
    · exact satS32_toInt _
    · rfl
  · rw [← measured]
    exact divide_q_toNat _ (retargeted s.pc.tc (measure s))
  · rw [← measured]
    exact divide_r_toNat _ t_pos
  · have rate : (instantRate s.cfg (elapsedNext s)).toNat = _ := sat32_toNat _
    have smoothed := smoothFps_toNat s.cfg s.pt.fps (elapsedNext s)
    rw [rate, measured] at smoothed
    exact smoothed

/-! ## The classes of a pulse cycle (R82) -/

/-- A cycle that step 2 leaves idle: the pixel clock and the DAC registers hold (41_pixel_clock.md R98). -/
theorem Clocked.holds_of_idle {p t : State} (rest : Clocked p t) (unaccepted : p.wires.accepted = false)
    (idle : p.pt.syncValid = false) : t.pc = { p.pc with phaseOffset := t.pc.phaseOffset } ∧ t.dm = p.dm := by
  cases rest.outcome with
  | holds _ _ _ pc dm => exact ⟨pc, dm⟩
  | counts _ live => exact absurd (idle.symm.trans live) Bool.false_ne_true
  | fires due =>
    rcases due with accepted | ⟨live, -⟩
    · exact absurd (unaccepted.symm.trans accepted) Bool.false_ne_true
    · exact absurd (idle.symm.trans live) Bool.false_ne_true

/-- What every pulse cycle does, whatever its class: it measures from the previous pulse and restarts E and TC, and the
block is live and ticks exactly if the pulse was accepted. -/
structure PulseMeasured (s t : State) : Prop where
  e : t.pt.e = 0
  revTicks : t.pt.revTicks = s.pc.tc
  armed : t.pt.haveLast = true
  tick : t.wires.tick = t.wires.accepted
  live : t.pt.syncValid = t.wires.accepted
  tc : t.pc.tc = if t.wires.accepted then 1 else 0

/-- The shared part of a pulse event gives it, where the class makes the block live exactly by accepting. -/
theorem Clocked.pulseMeasured {s p t : State} (rest : Clocked p t)
    (measured : p.pt = { p.pt with e := 0, haveLast := true, syncValid := p.wires.accepted, revTicks := s.pc.tc })
    (tc : p.pc.tc = 0) : PulseMeasured s t := by
  have live : p.pt.syncValid = p.wires.accepted := by rw [measured]
  have clock : t.wires.tick = t.wires.accepted ∧ t.pc.tc = if t.wires.accepted then 1 else 0 := by
    rw [rest.accepted]
    cases rest.outcome with
    | fires due tick _ _ tc_next =>
      have accepted : p.wires.accepted = true := by
        rcases due with accepted | ⟨is_live, -⟩
        · exact accepted
        · exact live.symm.trans is_live
      rw [accepted, tick, tc_next, tc]
      exact ⟨rfl, rfl⟩
    | holds unaccepted _ tick pc =>
      rw [unaccepted, tick, pc]
      exact ⟨rfl, tc⟩
    | counts unaccepted is_live =>
      exact absurd (unaccepted.symm.trans (live.symm.trans is_live)) Bool.false_ne_true
  obtain ⟨tick, tc_end⟩ := clock
  have pt : t.pt = _ := rest.pt.trans measured
  refine ⟨by rw [pt], by rw [pt], by rw [pt], tick, ?_, tc_end⟩
  rw [pt, rest.accepted]

theorem PulseCycle.measured {s t : State} (h : PulseCycle s t) (inv : StateInv s) : PulseMeasured s t := by
  cases h with
  | first unarmed rest =>
    have idle : s.pt.syncValid = false :=
      Bool.eq_false_iff.mpr fun live => Bool.false_ne_true (unarmed.symm.trans (inv.facts.live_armed live))
    exact rest.pulseMeasured (by simp [idle, CycleWires.clear]) rfl
  | short armed _ rest => exact rest.pulseMeasured (by simp [armed, CycleWires.clear]) rfl
  | long armed _ _ rest => exact rest.pulseMeasured (by simp [armed, CycleWires.clear]) rfl
  | accept armed _ _ rest => exact rest.pulseMeasured (by simp [acceptPulse, armed]) rfl

/-- What a pulse of class SHORT or LONG leaves and does: its flag, the idle block, and no register derived from the
rejected period (40_pulse_timer.md R84, R85). -/
theorem Clocked.rejected {c : Cause} {s t : State} (rest : Clocked (takeSensorFault c (measure (sampledStart s))) t) :
    t.wires.accepted = false ∧ stickyFlag c t.hb = true ∧ t.pc.aligned = false ∧ t.dm = blankDac ∧
      t.pt.period = s.pt.period ∧ t.pt.fps = s.pt.fps ∧ t.pt.err = s.pt.err ∧ t.pc.t = s.pc.t ∧
      t.pc.q = s.pc.q ∧ t.pc.r = s.pc.r ∧ t.pc.acc = s.pc.acc := by
  obtain ⟨flag, -⟩ := rest.recorded c (flagRecorded_takeSensorFault _ _)
  obtain ⟨pc, dm⟩ := rest.holds_of_idle rfl rfl
  rw [rest.pt, pc, dm]
  exact ⟨rest.accepted, flag, rfl, rfl, rfl, rfl, rfl, rfl, rfl, rfl, rfl⟩

/-- Settles O20: what every class shares, and then the class by the measured period. -/
theorem pulseCycleHasOneClass : Obligations.PulseCycleHasOneClass := by
  intro s p inv running edge unseen hp
  have measured : (elapsedNext s).toNat = p := (elapsedNext_toNat s).trans hp.symm
  obtain ⟨t, ht⟩ := stepNeverStops s inv
  have pulse : t.wires.pulse = true := (step_pulse_iff ht).mpr ⟨running, edge, unseen⟩
  have cycle : PulseCycle s t := step_pulseCycle ht running pulse
  obtain ⟨e, revTicks, armed_end, tick, live, tc⟩ := cycle.measured inv
  refine ⟨t, ht, pulse, e, revTicks, armed_end, tick, live, tc, ?_⟩
  have is_armed (armed : s.pt.haveLast = true) : ¬s.pt.haveLast = false := Bool.not_eq_false _ ▸ armed
  cases cycle with
  | first unarmed rest =>
    rw [if_pos unarmed]
    exact ⟨rest.accepted, rest.enterIdle, by rw [rest.pt]; rfl⟩
  | short armed under rest =>
    rw [if_neg (is_armed armed), if_pos (measured ▸ under)]
    exact rest.rejected
  | long armed lower past rest =>
    rw [if_neg (is_armed armed), if_neg (measured ▸ lower.not_gt), if_pos (measured ▸ past)]
    exact rest.rejected
  | accept armed lower upper rest =>
    rw [if_neg (is_armed armed), if_neg (measured ▸ lower.not_gt), if_neg (measured ▸ upper.not_gt)]
    exact ⟨rest.accepted, by rw [rest.pt]; exact measured⟩

/-! ## HAVE_LAST and ACTIVE_VALID -/

/-- No class of a pulse event, and no quiet cycle, disarms the measurement (40_pulse_timer.md R83). -/
theorem step_keeps_haveLast {s t : State} (h : step s = .next t) (running : (nextInput s).rst = false)
    (armed : s.pt.haveLast = true) : t.pt.haveLast = true := by
  rcases step_pulse_cases h running with ⟨-, cycle⟩ | ⟨-, cycle⟩
  · cases cycle with
    | first _ rest => rw [rest.pt]
    | short _ _ rest => rw [rest.pt]; exact armed
    | long _ _ _ rest => rw [rest.pt]; exact armed
    | accept _ _ _ rest => rw [rest.pt]; exact armed
  · cases cycle with
    | timeout _ _ rest => rw [rest.pt]; exact armed
    | elapse _ rest => rw [rest.pt]; exact armed

/-- A running cycle swaps, which makes ACTIVE_VALID 1, or leaves the arbiter to the host, which does not write
ACTIVE_VALID (42_frame_store.md R107, R109). -/
theorem step_keeps_activeValid {s t : State} (h : step s = .next t) (running : (nextInput s).rst = false)
    (valid : s.fs.activeValid = true) : t.fs.activeValid = true := by
  obtain ⟨-, -, ⟨rst, -⟩ | ⟨-, p, q, hp, hq, ht⟩⟩ := step_next h
  · exact absurd (running.symm.trans rst) Bool.false_ne_true
  · obtain ⟨fs_start, clear⟩ := pulseTimerPart_arbiter hp
    rw [(endTransaction_leavesSwap ht).roles]
    rcases pixelClockPart_swap hq clear with ⟨-, -, -, swap⟩ | ⟨-, kept⟩
    · rw [swap.arbiter]
      rfl
    · rw [kept, fs_start]
      exact valid

/-- Settles O51. -/
theorem armedAndValidFallOnlyByReset : Obligations.ArmedAndValidFallOnlyByReset :=
  fun _ _ h running => ⟨step_keeps_haveLast h running, step_keeps_activeValid h running⟩

/-! ## The order of a cycle (R75) -/

/-- The cycle of a word that writes: the write comes last, and a reset cycle drops it (44_host_bus.md R126). -/
theorem cycleWith_of_write {i : CycleInput} (writes : (i.word.sel && i.word.we) = true) (s : State) :
    cycleWith i s =
      if i.rst then exec .evReset (beginCycle s)
      else andThen (pulseTimerPart (synchronise i.syncIn (beginCycle s))) fun p =>
        andThen (pixelClockPart p) (exec (decode i.word)) := by
  have first : startTransaction i.word (beginCycle s) = .next (beginCycle s) := if_pos writes
  have last : endTransaction i.word = exec (decode i.word) := funext fun s => if_pos writes
  rw [cycleWith, first, andThen_next, runningCycle, last]

/-- The cycle of a read or a NOP: it comes first, and nothing follows the pixel clock (44_host_bus.md R125). -/
theorem cycleWith_of_no_write {i : CycleInput} (noWrite : (i.word.sel && i.word.we) = false) (s : State) :
    cycleWith i s =
      andThen (exec (decode i.word) (beginCycle s)) fun b =>
        if i.rst then exec .evReset b else andThen (pulseTimerPart (synchronise i.syncIn b)) pixelClockPart := by
  have not_writes : ¬(i.word.sel && i.word.we) = true := by rw [noWrite]; exact Bool.false_ne_true
  have first : startTransaction i.word (beginCycle s) = exec (decode i.word) (beginCycle s) := if_neg not_writes
  have last : endTransaction i.word = fun s => .next s := funext fun s => if_neg not_writes
  rw [cycleWith, first]
  simp only [runningCycle, last, andThen_pure]

/-- Settles O6: the step of a launched, legal machine is the cycle of its presented word. -/
theorem stepRunsPresentedTransaction : Obligations.StepRunsPresentedTransaction := by
  refine ⟨?_, fun _ => rfl, fun _ => rfl⟩
  rintro s i rst y w rest hc launched presented rfl
  have input : nextInput s = { rst := rst, syncIn := y, word := w } := by rw [nextInput, presented]
  rw [step, if_pos hc, if_neg (by simp [launched]), input]
  cases writes : w.sel && w.we with
  | true => exact (cycleWith_of_write (i := ⟨rst, y, w⟩) writes s).trans (if_pos rfl).symm
  | false => exact (cycleWith_of_no_write (i := ⟨rst, y, w⟩) writes s).trans (if_neg Bool.false_ne_true).symm

end Sys2Proof.Machine

/-! The proofs of the statements of 41_pixel_clock.md: the cycles in which ticks fall and how many there are (R96, R97),
the pixel timer and its intervals (R93, R94), the tick (R99 to R102), the frames of N ticks (R103), and the idle block
(R98). -/

namespace Sys2Proof.Machine

/-! ## The ticks of a revolution (R96, R97) -/

/-- The newest tick of the revolution, which is tick number TC − 1, falls `k` cycles after the accepted pulse. -/
def NewestTickAt (k : Nat) (s : State) : Prop :=
  (s.pc.tc.toNat - 1) * s.pt.period.toNat / s.pc.t.toNat = k

/-- The step from one state of the tick law to the next fires exactly if the newest tick falls in its cycle: a tick
re-arms CTR with the whole interval up to the next one, and a cycle that counts down leaves the newest tick in the
past. -/
theorem TickLaw.tick_iff {k : Nat} {s t : State} (before : TickLaw k s.pt.period s.pc)
    (after : TickLaw (k + 1) t.pt.period t.pc) (h : StateInv s) (live : s.pt.syncValid = true)
    (rest : Clocked s t) : t.wires.tick = true ↔ NewestTickAt (k + 1) t := by
  have t_pos : 0 < s.pc.t.toNat := (Nat.zero_le _).trans_lt h.facts.r_lt
  unfold NewestTickAt
  cases rest.outcome with
  | fires _ tick acc ctr _ =>
    have next_tick := after.next_tick
    have interval := h.nextInterval_sum
    rw [rest.pt, rest.target, acc, ctr, Nat.mul_add] at next_tick
    have newest : (t.pc.tc.toNat - 1) * s.pt.period.toNat = s.pc.t.toNat * (k + 1) + s.pc.acc.toNat := by
      rw [Nat.sub_mul, Nat.one_mul]
      omega
    rw [rest.pt, rest.target, newest, Nat.mul_add_div t_pos, Nat.div_eq_of_lt h.facts.acc_lt]
    exact iff_of_true tick rfl
  | holds _ idle => exact absurd (idle.symm.trans live) Bool.false_ne_true
  | counts _ _ _ quiet pc =>
    have past : (s.pc.tc.toNat - 1) * s.pt.period.toNat / s.pc.t.toNat < k + 1 :=
      Nat.div_lt_of_lt_mul before.last_tick
    rw [quiet, rest.pt, pc]
    exact iff_of_false Bool.false_ne_true past.ne

theorem newestTickAt_of_accepted {s c : State} (h : step s = .next c) (accepted : c.wires.accepted = true)
    (start : InWindow c 0 c) : c.wires.tick = true ∧ NewestTickAt 0 c := by
  have tc_le := start.ticks.tc_le start.inv start.live
  refine ⟨?_, ?_⟩
  · obtain ⟨-, -, -, rest⟩ := step_accepted h accepted
    cases rest.outcome with
    | fires _ tick => exact tick
    | holds unaccepted => exact absurd unaccepted.symm Bool.false_ne_true
    | counts unaccepted => exact absurd unaccepted.symm Bool.false_ne_true
  · rw [NewestTickAt, Nat.sub_eq_zero_of_le tc_le, Nat.zero_mul, Nat.zero_div]

theorem InWindow.tick_iff {c s t : State} {k : Nat} (win : InWindow c k s) (next : InWindow c (k + 1) t)
    (h : step s = .next t) (running : (nextInput s).rst = false) (quiet : t.wires.pulse = false) :
    t.wires.tick = true ↔ NewestTickAt (k + 1) t := by
  cases step_quietCycle h running quiet with
  | timeout _ _ rest =>
    have idle : t.pt.syncValid = false := by rw [rest.pt]; rfl
    exact absurd (idle.symm.trans next.live) Bool.false_ne_true
  | elapse window rest =>
    exact TickLaw.tick_iff (s := countElapsed (sampledStart s)) win.ticks next.ticks
      (stateInv_countElapsed (stateInv_sampledStart win.inv) window) win.live rest

/-- In every cycle of the window the tick is the newest one's. -/
theorem tick_iff_of_run {s c t : State} {m : Nat} (h : step s = .next c) (accepted : c.wires.accepted = true)
    (start : InWindow c 0 c) (inside : m ≤ c.cfg.pMax) (run : quietRun m c t) :
    t.wires.tick = true ↔ NewestTickAt m t := by
  cases m with
  | zero =>
    obtain rfl : c = t := run
    obtain ⟨tick, newest⟩ := newestTickAt_of_accepted h accepted start
    exact iff_of_true tick newest
  | succ m =>
    obtain ⟨u, before, last⟩ := quietRun_add run
    obtain ⟨hu, running, quiet⟩ := quietRun_one last
    have at_u : InWindow c (0 + m) u := start.run before (by omega)
    rw [Nat.zero_add] at at_u
    exact at_u.tick_iff (at_u.next hu running quiet inside) hu running quiet

/-- Tick number TC is still to come. -/
theorem TickLaw.next_later {k : Nat} {period : Word} {pc : PixelClock} (law : TickLaw k period pc)
    (ctr_pos : 1 ≤ pc.ctr.toNat) : pc.t.toNat * (k + 1) ≤ pc.tc.toNat * period.toNat :=
  calc pc.t.toNat * (k + 1)
      ≤ pc.t.toNat * (k + pc.ctr.toNat) := Nat.mul_le_mul_left _ (by omega)
    _ ≤ pc.tc.toNat * period.toNat := law.next_tick ▸ Nat.le_add_right _ _

/-- Only the newest tick can fall in this cycle: the next one is still to come, and as T ≤ PERIOD no two share a
cycle. -/
theorem TickLaw.tc_eq_of_floor_eq {k j : Nat} {s : State} (law : TickLaw k s.pt.period s.pc) (h : StateInv s)
    (live : s.pt.syncValid = true) (falls : j * s.pt.period.toNat / s.pc.t.toNat = k) : s.pc.tc.toNat = j + 1 := by
  have t_pos : 0 < s.pc.t.toNat := (Nat.zero_le _).trans_lt h.facts.r_lt
  have t_le := h.target_le_period live
  have not_next : j < s.pc.tc.toNat := by
    refine Nat.lt_of_mul_lt_mul_right (a := s.pt.period.toNat) ?_
    calc j * s.pt.period.toNat
        < s.pc.t.toNat * (k + 1) := falls ▸ Nat.lt_mul_div_succ _ t_pos
      _ ≤ s.pc.tc.toNat * s.pt.period.toNat := law.next_later (h.facts.live_ctr live)
  have not_older : s.pc.tc.toNat - 1 < j + 1 := by
    refine Nat.lt_of_mul_lt_mul_right (a := s.pt.period.toNat) ?_
    calc (s.pc.tc.toNat - 1) * s.pt.period.toNat
        < s.pc.t.toNat * (k + 1) := law.last_tick
      _ = s.pc.t.toNat * (j * s.pt.period.toNat / s.pc.t.toNat) + s.pc.t.toNat := by rw [falls, Nat.mul_succ]
      _ ≤ j * s.pt.period.toNat + s.pt.period.toNat := Nat.add_le_add (Nat.mul_div_le _ _) t_le
      _ = (j + 1) * s.pt.period.toNat := (Nat.succ_mul _ _).symm
  omega

/-- Settles O24: a tick is the newest one's, and no other tick number has its cycle. -/
theorem ticksFallAtFloorTimes : Obligations.TicksFallAtFloorTimes := by
  intro s c t m inv h accepted inside run
  have start : InWindow c 0 c := inWindow_of_accepted inv h accepted
  have at_m : InWindow c (0 + m) t := start.run run (by omega)
  rw [Nat.zero_add] at at_m
  have period : t.pt.period = c.pt.period := by rw [at_m.pt]
  rw [← period, ← at_m.target, tick_iff_of_run h accepted start inside run]
  have only_newest (j : Nat) (falls : j * t.pt.period.toNat / t.pc.t.toNat = m) : t.pc.tc.toNat = j + 1 :=
    at_m.ticks.tc_eq_of_floor_eq at_m.inv at_m.live falls
  refine ⟨⟨fun newest => ⟨_, newest⟩, fun ⟨j, falls⟩ => ?_⟩, only_newest⟩
  rw [NewestTickAt, only_newest j falls]
  exact falls

/-- Settles O25: tick TC − 1 came by now and tick TC is still to come. -/
theorem tickCountIsCeilingOfRatio : Obligations.TickCountIsCeilingOfRatio := by
  intro s c t m inv h accepted inside run
  have start : InWindow c 0 c := inWindow_of_accepted inv h accepted
  have at_m : InWindow c (0 + m) t := start.run run (by omega)
  rw [Nat.zero_add] at at_m
  have period : t.pt.period = c.pt.period := by rw [at_m.pt]
  have came := at_m.ticks.last_tick
  have to_come := at_m.ticks.next_later (at_m.inv.facts.live_ctr at_m.live)
  rw [Nat.sub_mul, Nat.one_mul] at came
  rw [← period, ← at_m.target, Nat.mul_comm]
  refine (Nat.div_eq_of_lt_le ?_ ?_).symm
  · omega
  · rw [Nat.succ_mul]
    omega

/-! ## The pixel timer and its intervals (R93, R94) -/

/-- NEXTINTERVAL, as numbers (41_pixel_clock.md R94): a remainder that fills ACC up to T lengthens the interval by one
cycle. -/
theorem nextInterval_cases {pc : PixelClock} (r_lt : pc.r.toNat < pc.t.toNat) (fits : pc.q.toNat + 1 < 2 ^ 32) :
    (pc.t.toNat ≤ pc.acc.toNat + pc.r.toNat ∧ (nextInterval pc).1.toNat + pc.t.toNat = pc.acc.toNat + pc.r.toNat ∧
        (nextInterval pc).2.toNat = pc.q.toNat + 1) ∨
      (pc.acc.toNat + pc.r.toNat < pc.t.toNat ∧ (nextInterval pc).1.toNat = pc.acc.toNat + pc.r.toNat ∧
        (nextInterval pc).2 = pc.q) := by
  unfold nextInterval
  dsimp only
  split_ifs with carry
  · have acc : (BitVec.ofNat 17 (pc.acc.toNat + pc.r.toNat - pc.t.toNat)).toNat = _ := toNat_ofNat_of_fits (by omega)
    exact .inl ⟨carry, by rw [acc]; omega, BitVec.toNat_add_of_lt fits⟩
  · exact .inr ⟨Nat.not_le.mp carry, toNat_ofNat_of_fits (by omega), rfl⟩

/-- Settles O22, by the three things the pixel timer can do. -/
theorem pixelTimerFiresHoldsOrCounts : Obligations.PixelTimerFiresHoldsOrCounts := by
  intro s _ r_lt q_lt
  refine ⟨pixelTimer s, rfl, ?_⟩
  rcases pixelTimer_cases s with ⟨due, fires⟩ | ⟨unaccepted, idle, holds⟩ | ⟨unaccepted, live, running, counts⟩
  · rw [fires]
    refine ⟨fun _ => ⟨rfl, ?_⟩, fun unaccepted idle => ?_, fun unaccepted _ running => ?_⟩
    · rcases nextInterval_cases r_lt (by omega) with ⟨carry, acc, longer⟩ | ⟨no_carry, acc, same⟩
      · rw [if_pos carry]
        exact ⟨acc, longer⟩
      · rw [if_neg no_carry.not_ge]
        exact ⟨acc, same⟩
    · simp [unaccepted, idle] at due
    · simp [unaccepted, running.not_ge] at due
  · rw [holds]
    exact ⟨fun due => by simp [unaccepted, idle] at due, fun _ _ => rfl, fun _ live => by simp [idle] at live⟩
  · rw [counts]
    exact ⟨fun due => by simp [unaccepted, running.not_ge] at due, fun _ idle => by simp [live] at idle,
      fun _ _ _ => ⟨rfl, BitVec.toNat_sub_of_le (BitVec.le_def.mpr running.le)⟩⟩

/-- The floor law of R96 from any ACC: the intervals share out k·R and what ACC already holds. -/
theorem intervalSum_eq (k : Nat) {pc : PixelClock} (acc_lt : pc.acc.toNat < pc.t.toNat)
    (r_lt : pc.r.toNat < pc.t.toNat) (fits : pc.q.toNat + 1 < 2 ^ 32) :
    intervalSum k pc = k * pc.q.toNat + (pc.acc.toNat + k * pc.r.toNat) / pc.t.toNat := by
  have t_pos : 0 < pc.t.toNat := (Nat.zero_le _).trans_lt acc_lt
  induction k generalizing pc with
  | zero => rw [intervalSum, Nat.zero_mul, Nat.zero_mul, Nat.add_zero, Nat.div_eq_of_lt acc_lt]
  | succ k ih =>
    have rest : intervalSum k { pc with acc := (nextInterval pc).1 } = _ :=
      ih (nextInterval_acc_lt r_lt acc_lt) r_lt fits t_pos
    rw [intervalSum, rest]
    dsimp only
    rcases nextInterval_cases r_lt fits with ⟨-, acc, longer⟩ | ⟨-, acc, same⟩
    · have total : pc.acc.toNat + (k + 1) * pc.r.toNat
          = (nextInterval pc).1.toNat + k * pc.r.toNat + pc.t.toNat := by
        rw [Nat.succ_mul]
        omega
      rw [total, Nat.add_div_right _ t_pos, longer, Nat.succ_mul]
      omega
    · have total : pc.acc.toNat + (k + 1) * pc.r.toNat = (nextInterval pc).1.toNat + k * pc.r.toNat := by
        rw [Nat.succ_mul]
        omega
      rw [total, same, Nat.succ_mul]
      omega

/-- Settles O23: the law from ACC = 0. -/
theorem intervalsSumToTheFloorLaw : Obligations.IntervalsSumToTheFloorLaw := by
  intro pc k acc r_lt q_lt
  have acc_zero : pc.acc.toNat = 0 := congrArg BitVec.toNat acc
  rw [intervalSum_eq k (by omega) r_lt (by omega), acc_zero, Nat.zero_add]

/-! ## The tick (R99 to R102) -/

/-- The model compares PHASE_OFFSET with TC as words, and `tickHits` as numbers. -/
theorem tickHits_iff (s : State) : tickHits s = true ↔ s.pc.phaseOffset.setWidth 32 = s.pc.tc := by
  unfold tickHits
  rw [decide_eq_true_eq]
  bv_omega

/-- ALIGN in full (41_pixel_clock.md R100). -/
theorem alignIndex_eq (s : State) :
    alignIndex s =
      { s with pc := { s.pc with pIdx := if tickHits s then 0 else s.pc.pIdx, aligned := tickAligned s } } := by
  unfold alignIndex tickAligned
  split_ifs with same hits hits
  · simp [hits]
  · exact absurd ((tickHits_iff s).mpr same) hits
  · exact absurd ((tickHits_iff s).mp hits) same
  · simp [hits]

theorem alignIndex_pIdx (s : State) : (alignIndex s).pc.pIdx.toNat = tickIndex s := by
  rw [alignIndex_eq, tickIndex]
  dsimp only
  split_ifs <;> rfl

theorem isFrameStart_alignIndex (s : State) : isFrameStart (alignIndex s) = tickIsFrameStart s := by
  have zero : decide ((alignIndex s).pc.pIdx = 0) = decide (tickIndex s = 0) := by
    rw [← alignIndex_pIdx]
    exact decide_eq_decide.mpr (BitVec.toNat_inj (y := 0)).symm
  rw [isFrameStart, zero, tickIsFrameStart, alignIndex_eq]

/-- The arbiter's part of a tick, by what the tick's start state says of it (41_pixel_clock.md R99, 42_frame_store.md
R107). -/
def arbiterPart (s : State) : State :=
  { s with
    fs := if tickSwaps s then
        { s.fs with
          active := otherSlot s.fs.active, ready := false, activeValid := true, swapCount := s.fs.swapCount + 1 }
      else s.fs
    hb := if tickSwaps s then { s.hb with swapped := true } else s.hb
    wires := { s.wires with
      frameStart := tickIsFrameStart s
      setmask := if tickSwaps s then s.wires.setmask ||| 0x100#32 else s.wires.setmask } }

@[simp] theorem arbiterPart_cfg (s : State) : (arbiterPart s).cfg = s.cfg := rfl
@[simp] theorem arbiterPart_wires_frameStart (s : State) :
    (arbiterPart s).wires.frameStart = tickIsFrameStart s := rfl

theorem beforeEmission_eq (s : State) : beforeEmission s = { arbiterPart s with pc := (alignIndex s).pc } := by
  unfold beforeEmission arbitrate arbiterPart tickSwaps
  rw [isFrameStart_alignIndex, alignIndex_fs]
  dsimp only
  split_ifs with swaps
  · rw [alignIndex_eq]
    rfl
  · rw [alignIndex_eq]

/-- What a tick makes of every element but the DAC registers and the draw count (41_pixel_clock.md R99). -/
structure Ticked (s t : State) : Prop where
  index : t.pc.pIdx.toNat = if tickIndex s + 1 = s.cfg.n then 0 else tickIndex s + 1
  tc : t.pc.tc.toNat = min (s.pc.tc.toNat + 1) (2 ^ 32 - 1)
  frame : t = { arbiterPart s with
    pc := { s.pc with aligned := tickAligned s, pIdx := t.pc.pIdx, tc := t.pc.tc }
    dm := t.dm, draws := t.draws }

theorem tickIndex_lt {s : State} (hc : s.cfg.Legal) (inFrame : s.pc.pIdx.toNat < s.cfg.n) :
    tickIndex s < s.cfg.n := by
  have hn := hc.n_bounds
  unfold tickIndex
  split_ifs
  · omega
  · exact inFrame

theorem execEvTick_ticked {s t : State} (hc : s.cfg.Legal) (inFrame : s.pc.pIdx.toNat < s.cfg.n)
    (h : execEvTick s = .next t) : Ticked s t := by
  have hn := hc.n_bounds
  have index_lt := tickIndex_lt hc inFrame
  have index := alignIndex_pIdx s
  obtain ⟨d, n, -, rfl⟩ := execEvTick_next h
  rw [beforeEmission_eq]
  refine ⟨?_, ?_, ?_⟩
  · rw [advanceIndex_pc]
    dsimp only
    rw [index, arbiterPart_cfg]
    split_ifs with last
    · rfl
    · rw [← index]
      exact BitVec.toNat_add_of_lt (show (alignIndex s).pc.pIdx.toNat + 1 < 2 ^ 16 by omega)
  · rw [advanceIndex_pc, alignIndex_eq]
    exact sat32_toNat _
  · rw [alignIndex_eq]
    rfl

/-- Settles O27. -/
theorem tickAlignsSwapsAndAdvances : Obligations.TickAlignsSwapsAndAdvances := by
  intro s hc inFrame
  obtain ⟨t, ht⟩ := execEvTick_exists (s := s) ((Nat.zero_le _).trans_lt inFrame) inFrame
  obtain ⟨index, tc, frame⟩ := execEvTick_ticked hc inFrame ht
  exact ⟨t, ht, index, tc, frame⟩

/-! ## Frames (R103) -/

/-- Step 2 of a cycle as the pixel clock sees it: a pulse event restarts TC, and an idle entry is all that unaligns the
block (40_pulse_timer.md R82, 60_exceptions.md R149). -/
theorem pulseTimerPart_pc {s p : State} (hp : pulseTimerPart s = .next p) :
    p.pc.phaseOffset = s.pc.phaseOffset ∧ p.pc.tc = (if s.wires.pulse then 0 else s.pc.tc) ∧
      (p.pt.syncValid = true → p.pc.aligned = s.pc.aligned) := by
  obtain ⟨u, hu, hcases⟩ := pulseTimerPart_cases s
  obtain rfl : u = p := Host.Outcome.next.inj (hu.symm.trans hp)
  have unaligns {a b : Bool} (live : false = true) : a = b := absurd live Bool.false_ne_true
  rcases hcases with ⟨pulse, -, rfl⟩ | ⟨pulse, -, -, rfl⟩ | ⟨pulse, -, -, -, rfl⟩ | ⟨pulse, -, -, -, rfl⟩ |
    ⟨quiet, -, -, rfl⟩ | ⟨quiet, -, rfl⟩
  · exact ⟨rfl, by rw [pulse]; rfl, fun _ => rfl⟩
  · exact ⟨rfl, by rw [pulse]; rfl, unaligns⟩
  · exact ⟨rfl, by rw [pulse]; rfl, unaligns⟩
  · exact ⟨rfl, by rw [pulse]; rfl, fun _ => rfl⟩
  · exact ⟨rfl, by rw [quiet]; rfl, unaligns⟩
  · exact ⟨rfl, by rw [quiet]; rfl, fun _ => rfl⟩

theorem pixelTimer_of_tick {s : State} (fired : (pixelTimer s).wires.tick = true) : pixelTimer s = fireTick s := by
  rcases pixelTimer_cases s with ⟨-, fires⟩ | ⟨-, -, holds⟩ | ⟨-, -, -, counts⟩
  · exact fires
  · rw [holds] at fired
    exact absurd fired Bool.false_ne_true
  · rw [counts] at fired
    exact absurd fired Bool.false_ne_true

/-- A tick cycle is EV.TICK on what steps 2 and 3 leave, and the host's write after it leaves the index and the frame
start. -/
theorem step_ticked {s t : State} (inv : StateInv s) (h : step s = .next t) (tick : t.wires.tick = true) :
    ∃ p q, pulseTimerPart (sampledStart s) = .next p ∧ p.pt.syncValid = true ∧ Ticked (fireTick p) q ∧
      t.pc.pIdx = q.pc.pIdx ∧ t.wires.frameStart = q.wires.frameStart ∧ t.wires.pulse = p.wires.pulse := by
  obtain ⟨-, -, ⟨rst, -⟩ | ⟨-, p, q, hp, hq, ht⟩⟩ := step_next h
  · rw [step_reset_wires h rst] at tick
    exact absurd tick Bool.false_ne_true
  · have write := endTransaction_frame ht
    have timer : TimerInv p := pulseTimerPart_timerInv (stateInv_sampledStart inv) rfl hp
    have timed : StateInv (pixelTimer p) := stateInv_pixelTimer timer
    rw [write.wires] at tick ⊢
    rw [write.pc]
    rcases pixelClockPart_next hq with ⟨quiet, rfl⟩ | ⟨fired, ticked⟩
    · exact absurd (quiet.symm.trans tick) Bool.false_ne_true
    · have live := pixelTimer_tick_live timer fired
      rw [pixelTimer_of_tick fired] at ticked timed
      exact ⟨p, q, hp, live, execEvTick_ticked timed.legal timed.facts.pIdx_lt ticked, rfl, rfl,
        (pixelClockPart_clocked hq).pulse⟩

/-- What step 2 leaves for a tick without an alignment at a non-zero index: it emits the index the cycle started with,
since an alignment there is one at index 0 (41_pixel_clock.md R100, R103). -/
theorem tickIndex_of_noRealign {s p t : State} (hp : pulseTimerPart (sampledStart s) = .next p)
    (pulse : t.wires.pulse = p.wires.pulse) (tick : t.wires.tick = true) (noRealign : realigns s t = false) :
    tickIndex p = s.pc.pIdx.toNat := by
  have pIdx : p.pc.pIdx = s.pc.pIdx := (pulseTimerPart_pIdx hp :)
  obtain ⟨phase, tc, -⟩ := pulseTimerPart_pc hp
  obtain ⟨-, -, -, pulse_p⟩ := pulseTimerPart_frame hp
  unfold tickIndex
  split_ifs with hits
  · have meets : s.pc.phaseOffset.toNat = if t.wires.pulse then 0 else s.pc.tc.toNat := by
      rw [← sampledStart_pc, ← phase, of_decide_eq_true hits, tc, pulse, pulse_p]
      split_ifs <;> rfl
    have at_zero : s.pc.pIdx = 0 := by simpa [realigns, tick, ← meets] using noRealign
    rw [at_zero]
    rfl
  · rw [pIdx]

theorem succ_mod_eq_ite {i n : Nat} (h : i < n) : (i + 1) % n = if i + 1 = n then 0 else i + 1 := by
  split_ifs with last
  · rw [last, Nat.mod_self]
  · exact Nat.mod_eq_of_lt (by omega)

/-- A tick without an alignment at a non-zero index advances P_IDX by one modulo N, and it is a frame start, if aligned,
exactly where P_IDX is 0 (41_pixel_clock.md R101, R102). -/
theorem step_tick_index {s t : State} (inv : StateInv s) (h : step s = .next t) (tick : t.wires.tick = true)
    (noRealign : realigns s t = false) :
    t.pc.pIdx.toNat = (s.pc.pIdx.toNat + 1) % s.cfg.n ∧
      (s.pc.aligned = true → (t.wires.frameStart = true ↔ s.pc.pIdx.toNat = 0)) := by
  obtain ⟨p, q, hp, live, ticked, pIdx, frameStart, pulse⟩ := step_ticked inv h tick
  have emits : tickIndex (fireTick p) = s.pc.pIdx.toNat :=
    (tickIndex_of_noRealign hp pulse tick noRealign :)
  have cfg : (fireTick p).cfg = s.cfg := (pulseTimerPart_cfg hp :)
  refine ⟨?_, fun aligned => ?_⟩
  · rw [pIdx, ticked.index, emits, cfg, succ_mod_eq_ite inv.facts.pIdx_lt]
  · obtain ⟨-, -, kept⟩ := pulseTimerPart_pc hp
    have aligned_p : p.pc.aligned = true := (kept live).trans aligned
    rw [frameStart, ticked.frame, arbiterPart_wires_frameStart]
    simp [tickIsFrameStart, tickAligned, aligned_p, emits]

theorem step_quiet_index {s t : State} (h : step s = .next t) (running : (nextInput s).rst = false)
    (noTick : t.wires.tick = false) : t.pc.pIdx = s.pc.pIdx := by
  obtain ⟨p, hp, rest⟩ := step_clocked h running
  cases rest.outcome with
  | fires _ tick => exact absurd (noTick.symm.trans tick) Bool.false_ne_true
  | holds _ _ _ pc => rw [pc]; exact (pulseTimerPart_pIdx hp :)
  | counts _ _ _ _ pc => rw [pc]; exact (pulseTimerPart_pIdx hp :)

/-- P_IDX counts the ticks of a frame run modulo N (41_pixel_clock.md R103). -/
theorem frameRun_index {k n : Nat} {s t : State} (inv : StateInv s) (run : frameRun k n s t) :
    StateInv t ∧ t.cfg = s.cfg ∧ t.pc.pIdx.toNat = (s.pc.pIdx.toNat + n) % s.cfg.n := by
  induction k generalizing n s with
  | zero =>
    obtain ⟨rfl, rfl⟩ := run
    exact ⟨inv, rfl, (Nat.mod_eq_of_lt inv.facts.pIdx_lt).symm⟩
  | succ k ih =>
    obtain ⟨m, j, hm, running, -, noRealign, rfl, rest⟩ := run
    obtain ⟨inv_t, cfg, index⟩ := ih (step_stateInv inv hm) rest
    rw [step_cfg hm] at cfg index
    refine ⟨inv_t, cfg, index.trans ?_⟩
    cases tick : m.wires.tick with
    | false => rw [step_quiet_index hm running tick, Bool.toNat_false, Nat.zero_add]
    | true =>
      obtain ⟨advanced, -⟩ := step_tick_index inv hm tick noRealign
      rw [advanced, Nat.mod_add_mod, Bool.toNat_true, Nat.add_assoc]

theorem execAll_append (is js : List Instr) (s : State) :
    execAll (is ++ js) s = andThen (execAll is s) (execAll js) := by
  induction is generalizing s with
  | nil => rfl
  | cons i is ih =>
    rw [List.cons_append, execAll, execAll, andThen_assoc]
    exact congrArg (andThen (exec i s)) (funext ih)

/-- The pixel clock `k` ticks after index 0, within one frame and with no alignment after the first tick. -/
structure FrameProgress (s : State) (k : Nat) (u : State) : Prop where
  cfg : u.cfg = s.cfg
  phase : u.pc.phaseOffset = s.pc.phaseOffset
  tc : u.pc.tc.toNat = min (s.pc.tc.toNat + k) (2 ^ 32 - 1)
  index : u.pc.pIdx.toNat = if k = s.cfg.n then 0 else k

/-- Within the frame a tick emits index P_IDX: the first tick is at index 0 whether it aligns or not, and a later one
does not align. A saturated TC is above every PHASE_OFFSET. -/
theorem FrameProgress.tickIndex_eq {s u : State} {k : Nat} (h : FrameProgress s k u) (inFrame : k < s.cfg.n)
    (noAlign : ∀ j, 0 < j → j < s.cfg.n → s.pc.phaseOffset.toNat ≠ s.pc.tc.toNat + j) : tickIndex u = k := by
  have index : u.pc.pIdx.toNat = k := h.index.trans (if_neg inFrame.ne)
  unfold tickIndex
  split_ifs with hits
  · have same : s.pc.phaseOffset.toNat = min (s.pc.tc.toNat + k) (2 ^ 32 - 1) := by
      rw [← h.phase, ← h.tc]
      exact of_decide_eq_true hits
    have phase_lt := s.pc.phaseOffset.isLt
    by_contra later
    exact noAlign k (Nat.pos_of_ne_zero (Ne.symm later)) inFrame (by omega)
  · exact index

theorem FrameProgress.tick {s u v : State} {k : Nat} (h : FrameProgress s k u) (emits : tickIndex u = k)
    (ticked : Ticked u v) : FrameProgress s (k + 1) v := by
  obtain ⟨index, tc, frame⟩ := ticked
  have tc_u := h.tc
  refine ⟨?_, ?_, by omega, ?_⟩
  · rw [frame]
    exact h.cfg
  · rw [frame]
    exact h.phase
  · rw [index, emits, h.cfg]

/-- EV.TICK, up to N times from index 0 (41_pixel_clock.md R103). -/
theorem execAll_ticks {s : State} (hc : s.cfg.Legal) (start : s.pc.pIdx = 0)
    (noAlign : ∀ j, 0 < j → j < s.cfg.n → s.pc.phaseOffset.toNat ≠ s.pc.tc.toNat + j) {k : Nat} (inFrame : k ≤ s.cfg.n) :
    ∃ u, execAll (List.replicate k .evTick) s = .next u ∧ FrameProgress s k u := by
  have hn := hc.n_bounds
  induction k with
  | zero =>
    have tc_lt := s.pc.tc.isLt
    have n_pos : 0 ≠ s.cfg.n := by omega
    exact ⟨s, rfl, rfl, rfl, by omega, by rw [start, if_neg n_pos]; rfl⟩
  | succ k ih =>
    obtain ⟨u, hu, progress⟩ := ih (Nat.le_of_succ_le inFrame)
    have index : u.pc.pIdx.toNat < u.cfg.n := by
      rw [progress.index, progress.cfg, if_neg (Nat.ne_of_lt inFrame)]
      exact inFrame
    obtain ⟨v, (hv : exec .evTick u = .next v)⟩ := execEvTick_exists ((Nat.zero_le _).trans_lt index) index
    have ticked : Ticked u v := execEvTick_ticked (progress.cfg ▸ hc) index hv
    refine ⟨v, ?_, progress.tick (progress.tickIndex_eq inFrame noAlign) ticked⟩
    rw [List.replicate_succ', execAll_append, hu, andThen_next, execAll, hv]
    rfl

/-- Settles O28: the count over any frame run, and over EV.TICK alone. -/
theorem indexWrapsOnceInNTicks : Obligations.IndexWrapsOnceInNTicks := by
  refine ⟨fun s t k n inv run => ?_, fun s hc start noAlign => ⟨fun k inFrame => ?_, ?_⟩⟩
  · obtain ⟨inv_t, -, index⟩ := frameRun_index inv run
    refine ⟨index, fun u hu aligned tick noRealign => ?_⟩
    obtain ⟨-, frameStart⟩ := step_tick_index inv_t hu tick noRealign
    rw [frameStart aligned, index]
  · obtain ⟨u, hu, progress⟩ := execAll_ticks hc start noAlign inFrame.le
    exact ⟨u, hu, progress.index.trans (if_neg inFrame.ne)⟩
  · obtain ⟨t, ht, progress⟩ := execAll_ticks hc start noAlign (Nat.le_refl s.cfg.n)
    exact ⟨t, ht, BitVec.eq_of_toNat_eq (progress.index.trans (if_pos rfl))⟩

/-! ## The idle block (R98) -/

/-- Settles O29: the cycle is a plain elapse, after which the pixel clock holds. -/
theorem idleCycleHoldsThePixelClock : Obligations.IdleCycleHoldsThePixelClock := by
  intro s inv running idle noEdge
  obtain ⟨t, ht⟩ := stepNeverStops s inv
  have quiet : t.wires.pulse = false := by
    refine Bool.eq_false_iff.mpr fun pulse => ?_
    obtain ⟨-, high, low⟩ := (step_pulse_iff ht).mp pulse
    simp [high, low] at noEdge
  obtain ⟨-, -, noTick⟩ := step_idle_quiet ht running quiet idle
  have roles := swapIsWholeAndOnlyAtCommittedFrameStart s t ht running
  have noSwap : ¬(t.wires.frameStart = true ∧ s.fs.ready = true) := fun swap => by
    rw [if_pos swap] at roles
    obtain ⟨tick, -⟩ := roles
    exact Bool.false_ne_true (noTick.symm.trans tick)
  rw [if_neg noSwap] at roles
  obtain ⟨active, -, swapCount⟩ := roles
  cases step_quietCycle ht running quiet with
  | timeout live => exact absurd (idle.symm.trans live) Bool.false_ne_true
  | elapse _ rest =>
    obtain ⟨pc, dm⟩ := rest.holds_of_idle rfl idle
    refine ⟨t, ht, noTick, pc, dm.trans (inv.facts.idle_blank idle), active, swapCount, ?_, ?_⟩
    · rw [rest.pt]
      rfl
    · rw [rest.pt]
      exact elapsedNext_toNat s

end Sys2Proof.Machine

/-! The proofs of the statements of 42_frame_store.md: the emission and its fresh draws (R106), the host's fill and commit
(R110 to R113), who writes the store (R117), and the whole way of a loaded frame (R115). -/

namespace Sys2Proof.Machine

/-! ## The emission (R106) -/

/-- How many draws have been made once a byte is read: a ⊥ byte takes one. -/
def drawsAfter (b : Option Byte) (n : Nat) : Nat := if b.isNone then n + 1 else n

@[simp] theorem drawsAfter_some (v : Byte) (n : Nat) : drawsAfter (some v) n = n := rfl
@[simp] theorem drawsAfter_none (n : Nat) : drawsAfter none n = n + 1 := rfl

/-- The read of an existing cell of the active slot: its byte, or the next draw. -/
theorem readChannel_of_lt {o : Nat} {s : State} (exists_cell : o < s.cfg.slotBytes) :
    readChannel o s =
      .ok ((slotByte s s.fs.active o).getD (Config.freeByte s.draws),
        { s with draws := drawsAfter (slotByte s s.fs.active o) s.draws }) := by
  unfold readChannel slotByte
  rw [cellAddress_of_lt _ exists_cell]
  dsimp only
  cases Memory.read s.store (slotNumber s.fs.active * s.cfg.slotBytes + o) with
  | none => rfl
  | some v => rfl

/-- The read of an offset the slot does not have. -/
theorem readChannel_of_ge {o : Nat} {s : State} (no_cell : s.cfg.slotBytes ≤ o) :
    readChannel o s = .error .storeOffset := by
  rw [readChannel, cellAddress_of_ge _ no_cell]

/-- The state after the emission of a pixel with these bytes: a ⊥ byte is drawn, in the order red, green, blue, and every
byte is clamped (43_dac_mapper.md R118, R119). -/
def emission (b0 b1 b2 : Option Byte) (s : State) : State :=
  setDac (clamp6 (b0.getD (Config.freeByte s.draws)))
    (clamp6 (b1.getD (Config.freeByte (drawsAfter b0 s.draws))))
    (clamp6 (b2.getD (Config.freeByte (drawsAfter b1 (drawsAfter b0 s.draws)))))
    { s with draws := drawsAfter b2 (drawsAfter b1 (drawsAfter b0 s.draws)) }

/-- The emission of a pixel of the frame from an aligned, valid slot, in full. -/
theorem emitPixel_of_lt {p : Nat} {s : State} (aligned : s.pc.aligned = true) (valid : s.fs.activeValid = true)
    (inFrame : p < s.cfg.n) :
    emitPixel p s =
      .next (emission (slotByte s s.fs.active (3 * p)) (slotByte s s.fs.active (3 * p + 1))
        (slotByte s s.fs.active (3 * p + 2)) s) := by
  have bytes : s.cfg.slotBytes = 3 * s.cfg.n := rfl
  have read (o n : Nat) (exists_cell : o < s.cfg.slotBytes) :
      readChannel o { s with draws := n } = .ok ((slotByte s s.fs.active o).getD (Config.freeByte n),
        { s with draws := drawsAfter (slotByte s s.fs.active o) n }) :=
    readChannel_of_lt (s := { s with draws := n }) exists_cell
  unfold emitPixel emitRead
  rw [aligned, valid, readChannel_of_lt (by omega)]
  dsimp only
  rw [read _ _ (by omega)]
  dsimp only
  rw [read _ _ (by omega)]
  rfl

/-- No pixel outside the frame is emitted. -/
theorem emitPixel_of_ge {p : Nat} {s : State} (aligned : s.pc.aligned = true) (valid : s.fs.activeValid = true)
    (outside : s.cfg.n ≤ p) : emitPixel p s = .fault .storeOffset := by
  unfold emitPixel emitRead
  rw [aligned, valid, readChannel_of_ge (Nat.mul_le_mul_left 3 outside)]
  rfl

/-! ## The tick, by the pixel it emits (R106, R107) -/

/-- EV.TICK is the emission after alignment and arbitration, and then the advance (41_pixel_clock.md R99). -/
theorem execEvTick_eq (s : State) :
    execEvTick s = andThen (emitPixel (beforeEmission s).pc.pIdx.toNat (beforeEmission s)) fun e =>
      .next (advanceIndex e) := rfl

theorem beforeEmission_store (s : State) : (beforeEmission s).store = s.store := by
  rw [beforeEmission_eq]; rfl

theorem beforeEmission_draws (s : State) : (beforeEmission s).draws = s.draws := by
  rw [beforeEmission_eq]; rfl

theorem beforeEmission_pIdx (s : State) : (beforeEmission s).pc.pIdx.toNat = tickIndex s := by
  rw [beforeEmission_eq]; exact alignIndex_pIdx s

theorem beforeEmission_aligned (s : State) : (beforeEmission s).pc.aligned = tickAligned s := by
  rw [beforeEmission_eq, alignIndex_eq]

/-- A tick emits from the slot that is active after its swap. -/
theorem beforeEmission_active (s : State) : (beforeEmission s).fs.active = tickSlot s := by
  rw [beforeEmission_eq, tickSlot]
  dsimp only [arbiterPart]
  split_ifs <;> rfl

theorem beforeEmission_activeValid (s : State) :
    (beforeEmission s).fs.activeValid = (s.fs.activeValid || tickSwaps s) := by
  rw [beforeEmission_eq]
  dsimp only [arbiterPart]
  split_ifs with swaps
  · rw [swaps, Bool.or_true]
  · rw [Bool.eq_false_iff.mpr swaps, Bool.or_false]

/-- An aligned tick of a valid slot, in full. -/
theorem execEvTick_emits {s : State} (hc : s.cfg.Legal) (inFrame : s.pc.pIdx.toNat < s.cfg.n)
    (aligned : tickAligned s = true) (valid : s.fs.activeValid = true ∨ tickSwaps s = true) :
    execEvTick s = .next (advanceIndex (emission (slotByte s (tickSlot s) (3 * tickIndex s))
      (slotByte s (tickSlot s) (3 * tickIndex s + 1)) (slotByte s (tickSlot s) (3 * tickIndex s + 2))
      (beforeEmission s))) := by
  have stored (o : Nat) : slotByte (beforeEmission s) (tickSlot s) o = slotByte s (tickSlot s) o :=
    slotByte_congr (beforeEmission_cfg s) (beforeEmission_store s) _ o
  have emits := emitPixel_of_lt (s := beforeEmission s) ((beforeEmission_aligned s).trans aligned)
    ((beforeEmission_activeValid s).trans (Bool.or_eq_true_iff.mpr valid))
    (by rw [beforeEmission_cfg]; exact tickIndex_lt hc inFrame)
  rw [beforeEmission_active, stored, stored, stored] at emits
  rw [execEvTick_eq, beforeEmission_pIdx, emits, andThen_next]

/-- Settles O31: the tick's emission is that of the three bytes, from the draw count the tick starts with. -/
theorem unwrittenByteIsAFreshDraw : Obligations.UnwrittenByteIsAFreshDraw := by
  rintro s b0 b1 b2 n1 n2 n3 hc inFrame aligned valid rfl rfl rfl rfl rfl rfl
  refine ⟨_, execEvTick_emits hc inFrame aligned valid, beforeEmission_store s, ?_⟩
  rw [← beforeEmission_draws s]
  exact ⟨rfl, clamp6_toNat _, clamp6_toNat _, clamp6_toNat _⟩

/-- Settles O30: where no byte is ⊥, the emission takes no draw. -/
theorem emissionIsTheClampedStoredPixel : Obligations.EmissionIsTheClampedStoredPixel := by
  intro s r g b hc inFrame aligned valid red green blue
  obtain ⟨t, ht, -, draws, dacR, dacG, dacB⟩ :=
    unwrittenByteIsAFreshDraw s _ _ _ _ _ _ hc inFrame aligned valid red green blue rfl rfl rfl
  exact ⟨t, ht, dacR, dacG, dacB, draws⟩

/-! ## The emission and the standby slot (R106, R113) -/

/-- An emission sees the store through the active slot alone. -/
theorem emitPixel_of_store {p : Nat} {s t : State} {m : Memory} (h : emitPixel p s = .next t)
    (same : ∀ o, slotByte { s with store := m } s.fs.active o = slotByte s s.fs.active o) :
    emitPixel p { s with store := m } = .next { t with store := m } := by
  cases emits : s.pc.aligned && s.fs.activeValid with
  | false =>
    obtain rfl := Host.Outcome.next.inj ((emitPixel_blank emits).symm.trans h)
    exact emitPixel_blank (s := { s with store := m }) emits
  | true =>
    obtain ⟨aligned, valid⟩ := Bool.and_eq_true_iff.mp emits
    rcases Nat.lt_or_ge p s.cfg.n with inFrame | outside
    · obtain rfl := Host.Outcome.next.inj ((emitPixel_of_lt aligned valid inFrame).symm.trans h)
      rw [emitPixel_of_lt (s := { s with store := m }) aligned valid inFrame, same, same, same]
      rfl
    · exact nomatch (emitPixel_of_ge aligned valid outside).symm.trans h

/-- Alignment and arbitration do not look at the store. -/
theorem beforeEmission_of_store (s : State) (m : Memory) :
    beforeEmission { s with store := m } = { beforeEmission s with store := m } := by
  rw [beforeEmission_eq, beforeEmission_eq, alignIndex_eq, alignIndex_eq]
  rfl

/-- Settles O33: a tick looks at the store in its emission alone, and there at the slot active after its swap. -/
theorem emissionNeverReadsStandby : Obligations.EmissionNeverReadsStandby := by
  intro s t m h same
  obtain ⟨d, n, emits, rfl⟩ := execEvTick_next h
  have same_active (o : Nat) : slotByte { beforeEmission s with store := m } (beforeEmission s).fs.active o =
      slotByte (beforeEmission s) (beforeEmission s).fs.active o :=
    calc slotByte { beforeEmission s with store := m } (beforeEmission s).fs.active o
        = slotByte { s with store := m } (beforeEmission s).fs.active o :=
          slotByte_congr (s := { s with store := m }) (t := { beforeEmission s with store := m })
            (beforeEmission_cfg s) rfl _ o
      _ = slotByte s (beforeEmission s).fs.active o := same o
      _ = slotByte (beforeEmission s) (beforeEmission s).fs.active o :=
          (slotByte_congr (beforeEmission_cfg s) (beforeEmission_store s) _ o).symm
  change execEvTick { s with store := m } = _
  rw [execEvTick_eq, beforeEmission_of_store, emitPixel_of_store emits same_active]
  rfl

/-! ## The host's fill and commit (R110 to R112) -/

/-- Settles O35: LOAD_PTR is the low 18 bits of WDATA. -/
theorem wrLoadptrSetsThePointer : Obligations.WrLoadptrSetsThePointer :=
  fun _ d => ⟨loadPtrField d, BitVec.extractLsb'_toNat .., rfl⟩

/-- Settles O37, by the value of the COMMIT bit. -/
theorem wrCmdCommits : Obligations.WrCmdCommits := by
  intro s d
  refine ⟨fun commit => ?_, fun noCommit => ?_⟩
  · exact congrArg Host.Outcome.next (if_pos commit)
  · exact congrArg Host.Outcome.next (if_neg (Bool.eq_false_iff.mp noCommit))

/-- Settles O36, by whether standby has a cell at LOAD_PTR. -/
theorem wrLoaddataFillsStandbyOrFaults : Obligations.WrLoaddataFillsStandbyOrFaults := by
  intro s d hc
  refine ⟨fun inRange => ?_, fun past => execWrLoaddata_overflow past⟩
  have cell := cellAddress_of_lt (c := s.cfg) (standbySlot s) inRange
  have fits : s.fs.loadPtr.toNat + 1 < 2 ^ 18 := by
    have bounds := hc.n_bounds
    omega
  exact ⟨_, byteField d, execWrLoaddata_in_range inRange, slotByte_write_same (byteField d) cell,
    BitVec.extractLsb'_toNat .., fun _ _ other => slotByte_write_other (byteField d) cell other,
    BitVec.toNat_add_of_lt fits, rfl⟩

/-! ## Who writes the store (R117) -/

theorem pulseTimerPart_store {s p : State} (hp : pulseTimerPart s = .next p) : p.store = s.store := by
  have event : (pulseClass s).isTransaction = false := by
    unfold pulseClass
    split_ifs <;> rfl
  unfold pulseTimerPart at hp
  split_ifs at hp
  · exact (exec_event_store event hp).2
  · exact (exec_event_store rfl hp).2

theorem pixelClockPart_store {s t : State} (ht : pixelClockPart s = .next t) : t.store = s.store := by
  rcases pixelClockPart_next ht with ⟨-, rfl⟩ | ⟨-, tick⟩
  · exact pixelTimer_store s
  · exact (exec_event_store (i := .evTick) rfl tick).2.trans (pixelTimer_store s)

/-- A running cycle reaches its host write with the build parameters and the store it began with. -/
theorem store_before_hostWrite {s p q : State} (hp : pulseTimerPart (sampledStart s) = .next p)
    (hq : pixelClockPart p = .next q) : q.cfg = s.cfg ∧ q.store = s.store :=
  ⟨(pixelClockPart_cfg hq).trans (pulseTimerPart_cfg hp :),
    (pixelClockPart_store hq).trans (pulseTimerPart_store hp :)⟩

theorem decode_of_write_loaddata {w : TxWord} (sel : w.sel = true) (we : w.we = true) (addr : w.addr = 3) :
    decode w = .wrLoaddata w.wdata := by
  rw [decode_of_write sel we, addr]
  rfl

/-- What the end of a cycle can do to the store: nothing, or the fill of standby by a WR.LOADDATA, which cancels a
commit. -/
theorem endTransaction_store {w : TxWord} {s t : State} (ht : endTransaction w s = .next t) :
    t.store = s.store ∨
      ((∃ d, decode w = .wrLoaddata d) ∧ t.fs.ready = false ∧ t.fs.active = s.fs.active ∧ FillsStandby s t) := by
  obtain ⟨u, hu, hcases⟩ := endTransaction_cases w s
  obtain rfl : u = t := Host.Outcome.next.inj (hu.symm.trans ht)
  rcases hcases with ⟨rfl, -⟩ | ⟨-, -, -, rfl⟩ | ⟨-, -, -, rfl⟩ | ⟨-, -, -, rfl⟩ | ⟨sel, we, addr, inRange, rfl⟩ |
    ⟨-, -, -, -, rfl⟩ | ⟨-, -, -, -, rfl⟩
  · exact .inl rfl
  · exact .inl rfl
  · exact .inl rfl
  · exact .inl rfl
  · exact .inr ⟨⟨_, decode_of_write_loaddata sel we addr⟩, rfl, rfl, _, _, _, cellAddress_of_lt _ inRange, rfl⟩
  · exact .inl rfl
  · exact .inl rfl

/-- Settles O39: only the end of a cycle writes the store, and there only a WR.LOADDATA. -/
theorem storeChangesOnlyByLoaddata : Obligations.StoreChangesOnlyByLoaddata := by
  intro s t h
  obtain ⟨-, -, ⟨-, rfl⟩ | ⟨running, p, q, hp, hq, ht⟩⟩ := step_next h
  · exact .inl rfl
  · obtain ⟨cfg, store⟩ := store_before_hostWrite hp hq
    rcases endTransaction_store ht with same | ⟨presented, low, active, fill⟩
    · exact .inl (same.trans store)
    · refine .inr ⟨running, presented, low, fun o => ?_⟩
      rw [active]
      exact (fill.slotByte_active (endTransaction_cfg ht) o).trans (slotByte_congr cfg store _ o)

/-! ## The way of a loaded frame (R115) -/

/-- The coming cycles present these statements, one a cycle with no reset, under some levels of `sync_in`, and then
`rest`. -/
def Presents (sts : List HostStmt) (rest : List CycleInput) (s : State) : Prop :=
  ∃ levels : List Bool, levels.length = sts.length ∧
    s.inputs = List.zipWith (fun y st => { rst := false, syncIn := y, word := stmtWord st }) levels sts ++ rest

/-- The end of a cycle that presents a `WR` statement is its write. -/
theorem endTransaction_wr (a : BitVec 4) (d : Word) (s : State) :
    endTransaction (stmtWord (.wr a d)) s = exec (decodeWrite a d) s := by
  simp [endTransaction, stmtWord]

/-- With READY = 0 there is no swap, so a cycle that presents a `WR` statement does to the arbiter and the store what the
write does (42_frame_store.md R108). -/
theorem step_wr {s : State} {a : BitVec 4} {d : Word} {sts : List HostStmt} {rest : List CycleInput} (inv : StateInv s)
    (uncommitted : s.fs.ready = false) (presents : Presents (.wr a d :: sts) rest s) :
    ∃ q t, step s = .next t ∧ exec (decodeWrite a d) q = .next t ∧ StateInv t ∧ Presents sts rest t ∧
      q.cfg = s.cfg ∧ q.fs = s.fs ∧ q.store = s.store := by
  obtain ⟨_ | ⟨y, levels⟩, length, inputs⟩ := presents
  · exact nomatch length
  · obtain ⟨t, h, inv_t, later, -, -⟩ := step_presented inv inputs rfl
    have input : nextInput s = { rst := false, syncIn := y, word := stmtWord (.wr a d) } := by
      rw [nextInput, inputs]
      rfl
    obtain ⟨-, -, ⟨rst, -⟩ | ⟨-, p, q, hp, hq, ht⟩⟩ := step_next h
    · rw [input] at rst
      exact nomatch rst
    · obtain ⟨fs, clear⟩ : p.fs = s.fs ∧ p.wires.frameStart = false := pulseTimerPart_arbiter hp
      rw [input, endTransaction_wr] at ht
      obtain ⟨cfg, store⟩ := store_before_hostWrite hp hq
      refine ⟨q, t, h, ht, inv_t, ⟨levels, Nat.succ.inj length, later⟩, cfg, ?_, store⟩
      rcases pixelClockPart_swap hq clear with ⟨-, ready, -⟩ | ⟨-, kept⟩
      · rw [fs, uncommitted] at ready
        exact nomatch ready
      · exact kept.trans fs

/-- The slot holds the low bytes of these words, from its offset 0 on. -/
def HoldsBytes (slot : Slot) (bytes : List Word) (s : State) : Prop :=
  ∀ (k : Nat) (d : Word), bytes[k]? = some d → ∃ v, slotByte s slot k = some v ∧ v.toNat = d.toNat % 256

theorem holdsBytes_nil (slot : Slot) (s : State) : HoldsBytes slot [] s := fun _ _ h => nomatch h

theorem HoldsBytes.congr {slot : Slot} {bytes : List Word} {s t : State} (h : HoldsBytes slot bytes s)
    (cfg : t.cfg = s.cfg) (store : t.store = s.store) : HoldsBytes slot bytes t := by
  intro k d kth
  rw [slotByte_congr cfg store]
  exact h k d kth

/-- A fill that started in `s` has written the bytes `done` so far. -/
structure Filling (s : State) (done : List Word) (t : State) : Prop where
  inv : StateInv t
  cfg : t.cfg = s.cfg
  active : t.fs.active = s.fs.active
  uncommitted : t.fs.ready = false
  pointer : t.fs.loadPtr.toNat = done.length
  bytes : HoldsBytes (standbySlot s) done t

/-- The first cycle of LOADFRAME starts a fill at offset 0. -/
theorem step_seek {s : State} {sts : List HostStmt} {rest : List CycleInput} (inv : StateInv s)
    (uncommitted : s.fs.ready = false) (presents : Presents (.wr 2 0 :: sts) rest s) :
    ∃ t, step s = .next t ∧ Filling s [] t ∧ Presents sts rest t := by
  obtain ⟨q, t, h, write, inv_t, presents, cfg, fs, -⟩ := step_wr inv uncommitted presents
  obtain rfl := Host.Outcome.next.inj write
  refine ⟨_, h, ⟨inv_t, cfg, ?_, ?_, rfl, holdsBytes_nil _ _⟩, presents⟩
  · exact (congrArg FrameArbiter.active fs :)
  · exact (congrArg FrameArbiter.ready fs :).trans uncommitted

/-- A data cycle of LOADFRAME appends one byte to the fill. -/
theorem Filling.step_data {s m : State} {done : List Word} {d : Word} {sts : List HostStmt} {rest : List CycleInput}
    (fill : Filling s done m) (room : done.length < 3 * s.cfg.n) (presents : Presents (.wr 3 d :: sts) rest m) :
    ∃ t, step m = .next t ∧ Filling s (done ++ [d]) t ∧ Presents sts rest t := by
  obtain ⟨q, t, h, write, inv, presents, cfg, fs, store⟩ := step_wr fill.inv fill.uncommitted presents
  have pointer : q.fs.loadPtr.toNat = done.length := by rw [fs, fill.pointer]
  have standby : otherSlot q.fs.active = standbySlot s := by rw [fs, fill.active]; rfl
  have legal : q.cfg.Legal := cfg ▸ fill.inv.legal
  obtain ⟨t', v, write', new, value, old, next, frame⟩ :=
    (wrLoaddataFillsStandbyOrFaults q d legal).1 (by rw [pointer, cfg, fill.cfg]; exact room)
  obtain rfl := Host.Outcome.next.inj (write.symm.trans write')
  rw [pointer, standby] at new old
  refine ⟨t, h, ⟨inv, ?_, ?_, ?_, ?_, fun k e kth => ?_⟩, presents⟩
  · rw [frame]; exact cfg.trans fill.cfg
  · rw [frame, ← fill.active, ← fs]
  · rw [frame]
  · rw [next, pointer, List.length_append]; rfl
  · rcases Nat.lt_trichotomy k done.length with before | rfl | after
    · rw [List.getElem?_append_left before] at kth
      rw [old _ k (.inr before.ne), slotByte_congr cfg store]
      exact fill.bytes k e kth
    · rw [List.getElem?_concat_length, Option.some.injEq] at kth
      exact ⟨v, new, kth ▸ value⟩
    · rw [List.getElem?_eq_none (by simpa using after)] at kth
      exact nomatch kth

/-- The data cycles of LOADFRAME append their bytes to the fill. -/
theorem Filling.run_data {s m : State} {done bytes : List Word} {sts : List HostStmt} {rest : List CycleInput}
    (fill : Filling s done m) (room : done.length + bytes.length ≤ 3 * s.cfg.n)
    (presents : Presents (bytes.map (.wr 3) ++ sts) rest m) :
    ∃ t, runCycles bytes.length m = .next t ∧ Filling s (done ++ bytes) t ∧ Presents sts rest t := by
  induction bytes generalizing done m with
  | nil => exact ⟨m, rfl, (List.append_nil done).symm ▸ fill, presents⟩
  | cons d bytes ih =>
    rw [List.length_cons] at room
    obtain ⟨u, first, fill_u, presents_u⟩ := fill.step_data (by omega) presents
    have room_u : (done ++ [d]).length + bytes.length ≤ 3 * s.cfg.n := by
      rw [List.length_append, List.length_singleton]
      omega
    obtain ⟨t, run, fill_t, presents_t⟩ := ih fill_u room_u presents_u
    refine ⟨t, ?_, List.append_cons done d bytes ▸ fill_t, presents_t⟩
    rw [List.length_cons, runCycles, first]
    exact run

/-- The last cycle of LOADFRAME commits what the fill wrote. -/
theorem Filling.step_commit {s m : State} {done : List Word} {sts : List HostStmt} {rest : List CycleInput}
    (fill : Filling s done m) (presents : Presents (.wr 4 1 :: sts) rest m) :
    ∃ t, step m = .next t ∧ t.cfg = s.cfg ∧ t.fs.ready = true ∧ t.fs.active = s.fs.active ∧
      HoldsBytes (standbySlot s) done t := by
  obtain ⟨q, t, h, write, -, -, cfg, fs, store⟩ := step_wr fill.inv fill.uncommitted presents
  obtain rfl := Host.Outcome.next.inj (((wrCmdCommits q 1).1 rfl).symm.trans write)
  exact ⟨_, h, cfg.trans fill.cfg, rfl, (congrArg FrameArbiter.active fs).trans fill.active, fill.bytes.congr cfg store⟩

theorem runCycles_add (j k : Nat) (s : State) : runCycles (j + k) s = andThen (runCycles j s) (runCycles k) := by
  induction j generalizing s with
  | zero => rw [Nat.zero_add]; rfl
  | succ j ih =>
    rw [Nat.succ_add, runCycles, runCycles, andThen_assoc]
    exact congrArg (andThen (step s)) (funext ih)

/-- LOADFRAME fills standby and commits it (30_encoding.md R74). -/
theorem run_loadframe {s : State} {bytes : List Word} {rest : List CycleInput} (inv : StateInv s)
    (uncommitted : s.fs.ready = false) (fits : bytes.length ≤ 3 * s.cfg.n)
    (presents : Presents (expandPseudo (.loadframe bytes)) rest s) :
    ∃ t, runCycles (bytes.length + 2) s = .next t ∧ t.cfg = s.cfg ∧ t.fs.ready = true ∧
      t.fs.active = s.fs.active ∧ HoldsBytes (standbySlot s) bytes t := by
  obtain ⟨m, seek, start, presents_m⟩ := step_seek inv uncommitted presents
  obtain ⟨u, data, filled, presents_u⟩ := start.run_data (by rw [List.length_nil]; omega) presents_m
  obtain ⟨t, commit, loaded⟩ := filled.step_commit presents_u
  refine ⟨t, ?_, loaded⟩
  calc runCycles (bytes.length + 2) s
      = andThen (step s) (runCycles (bytes.length + 1)) := rfl
    _ = runCycles (bytes.length + 1) m := by rw [seek, andThen_next]
    _ = andThen (step u) (runCycles 0) := by rw [runCycles_add, data]; rfl
    _ = .next t := by rw [commit]; rfl

/-- An aligned tick of a valid slot that holds the frame drives its pixel, clamped (43_dac_mapper.md R119). -/
theorem HoldsBytes.tick_drives {s : State} {bytes : List Word} {r g b : Word} (frame : HoldsBytes (tickSlot s) bytes s)
    (hc : s.cfg.Legal) (inFrame : s.pc.pIdx.toNat < s.cfg.n) (aligned : tickAligned s = true)
    (valid : s.fs.activeValid = true ∨ tickSwaps s = true) (red : bytes[3 * tickIndex s]? = some r)
    (green : bytes[3 * tickIndex s + 1]? = some g) (blue : bytes[3 * tickIndex s + 2]? = some b) :
    ∃ t, exec .evTick s = .next t ∧ t.dm.dacR.toNat = min (r.toNat % 256) 63 ∧
      t.dm.dacG.toNat = min (g.toNat % 256) 63 ∧ t.dm.dacB.toNat = min (b.toNat % 256) 63 := by
  obtain ⟨vr, stored_r, value_r⟩ := frame _ _ red
  obtain ⟨vg, stored_g, value_g⟩ := frame _ _ green
  obtain ⟨vb, stored_b, value_b⟩ := frame _ _ blue
  obtain ⟨t, ht, dacR, dacG, dacB, -⟩ :=
    emissionIsTheClampedStoredPixel s vr vg vb hc inFrame aligned valid stored_r stored_g stored_b
  exact ⟨t, ht, value_r ▸ dacR, value_g ▸ dacG, value_b ▸ dacB⟩

/-- Settles O40: LOADFRAME leaves the frame in standby, and a tick that emits from a slot that holds it drives its
pixel. -/
theorem loadedFrameRoundTrips : Obligations.LoadedFrameRoundTrips := by
  intro s bytes levels rest inv uncommitted frame cycles inputs
  have presents : Presents (expandPseudo (.loadframe bytes)) rest s :=
    ⟨levels, by simp [expandPseudo, cycles, frame], inputs⟩
  obtain ⟨t, run, cfg, ready, active, loaded⟩ := run_loadframe inv uncommitted frame.le presents
  refine ⟨t, frame ▸ run, ready, active, loaded, ?_⟩
  rintro v i r g b cfg_v store_v inFrame aligned valid slot rfl red green blue
  have holds : HoldsBytes (tickSlot v) bytes v := slot ▸ loaded.congr (cfg_v.trans cfg.symm) store_v
  exact holds.tick_drives (cfg_v ▸ inv.legal) inFrame aligned valid red green blue

end Sys2Proof.Machine

/-! The proofs of the statements of 43_dac_mapper.md: the blank emission (R118, R120), and the ports as those of the state
a cycle starts from (R121). -/

namespace Sys2Proof.Machine

/-! ## The blank emission (R118, R120) -/

/-- A tick that is unaligned, or whose slot is still invalid after its swap, in full: the blank code and no read. -/
theorem execEvTick_blank {s : State} (blank : (tickAligned s && (s.fs.activeValid || tickSwaps s)) = false) :
    execEvTick s = .next (advanceIndex (setDac 0 0 0 (beforeEmission s))) := by
  rw [← beforeEmission_aligned, ← beforeEmission_activeValid] at blank
  rw [execEvTick_eq, emitPixel_blank blank, andThen_next]

/-- Settles O32: each of the two causes makes the tick's emission the blank one. -/
theorem blankUntilAlignedAndSwapped : Obligations.BlankUntilAlignedAndSwapped := by
  intro s _ _ cause
  have blank : (tickAligned s && (s.fs.activeValid || tickSwaps s)) = false := by
    rcases cause with unaligned | ⟨invalid, unswapped⟩
    · rw [unaligned, Bool.false_and]
    · rw [invalid, unswapped, Bool.or_false, Bool.and_false]
  exact ⟨_, execEvTick_blank blank, rfl, beforeEmission_draws s⟩

/-! ## The ports of a cycle (R121) -/

/-- No part of a cycle, reset or not, touches the ports that its start drives. -/
theorem step_out {s t : State} (h : step s = .next t) : t.out = (cycleStart s).out := by
  obtain ⟨-, -, ⟨-, rfl⟩ | ⟨running, -⟩⟩ := step_next h
  · exact resetBlock_out _
  · obtain ⟨p, hp, clocked⟩ := step_clocked h running
    obtain ⟨-, timed, -, -⟩ := pulseTimerPart_frame hp
    calc t.out = p.out := clocked.out
      _ = (sampledStart s).out := timed
      _ = (cycleStart s).out := synchronise_out _ _

/-- The ports at the start of a cycle: the registered outputs of the start state, and the read data of the cycle's word
(44_host_bus.md R125). -/
theorem cycleStart_out (s : State) :
    (cycleStart s).out = { portsOf s with busRdata := busData (nextInput s).word s } := rfl

/-- Settles O48: the irq formula of 60_exceptions.md R154 is the level `portsOf` drives. -/
theorem outputsAreOfTheStartState : Obligations.OutputsAreOfTheStartState := by
  intro s t h
  rw [step_out h, cycleStart_out, portsOf, irqLevel, busData]

end Sys2Proof.Machine

/-! The proofs of the statements of 44_host_bus.md: the words the registers read as (R128 to R142), the reads with
nothing behind them (R133, R144), and the writes of CTRL, STATUS and the registers that ignore them (R129, R131, R143,
R145). -/

namespace Sys2Proof.Machine

/-! ## The words of CTRL, STATUS and POS, field by field -/

/-- Concatenation puts the left field above the right one. -/
theorem toNat_append_eq_add {m n : Nat} (x : BitVec m) (y : BitVec n) : (x ++ y).toNat = x.toNat * 2 ^ n + y.toNat := by
  rw [BitVec.toNat_append, ← Nat.shiftLeft_add_eq_or_of_lt y.isLt, Nat.shiftLeft_eq]

theorem slotBit_toNat (slot : Slot) : (slotBit slot).toNat = if slot = .slot1 then 1 else 0 := by
  cases slot <;> rfl

/-- 10_state.md R33. -/
theorem ctrlWord_toNat (s : State) : (ctrlWord s).toNat =
    s.pc.phaseOffset.toNat + s.hb.swapIe.toNat * 2 ^ 16 + s.hb.faultIe.toNat * 2 ^ 17 := by
  rw [ctrlWord, BitVec.toNat_setWidth_of_le (by decide)]
  simp only [toNat_append_eq_add, BitVec.toNat_ofBool]
  omega

/-- 10_state.md R34. -/
theorem statusWord_toNat (s : State) : (statusWord s).toNat =
    s.pt.syncValid.toNat + s.fs.ready.toNat * 2 + (if s.fs.active = .slot1 then 4 else 0) +
      s.fs.activeValid.toNat * 8 + s.pc.aligned.toNat * 16 + s.pt.haveLast.toNat * 32 + s.hb.swapped.toNat * 0x100 +
      s.hb.fShort.toNat * 0x200 + s.hb.fLong.toNat * 0x400 + s.hb.fTimeout.toNat * 0x800 +
      s.hb.fLoadOvf.toNat * 0x1000 := by
  rw [statusWord, BitVec.toNat_setWidth_of_le (by decide)]
  simp only [toNat_append_eq_add, BitVec.toNat_ofBool, slotBit_toNat, BitVec.toNat_ofNat]
  split_ifs <;> omega

/-- 10_state.md R44. -/
theorem posWord_toNat (s : State) : (posWord s).toNat = min s.pc.tc.toNat 65535 * 2 ^ 16 + s.pc.pIdx.toNat := by
  rw [posWord, toNat_append_eq_add, toNat_ofNat_of_fits (by omega)]

/-! ## The reads -/

/-- Settles O42: the three reads are the reads of addresses 0 to 2. -/
theorem controlReadsBitByBit : Obligations.ControlReadsBitByBit :=
  fun s => ⟨ctrlWord s, statusWord s, s.fs.loadPtr.setWidth 32, exec_decodeRead 0 s, exec_decodeRead 1 s,
    exec_decodeRead 2 s, ctrlWord_toNat s, statusWord_toNat s, BitVec.toNat_setWidth_of_le (by decide)⟩

/-- Settles O43: the nine reads are the reads of addresses 5 to 13. -/
theorem diagnosticReadsReturnTheirElement : Obligations.DiagnosticReadsReturnTheirElement :=
  fun s => ⟨exec_decodeRead 5 s, exec_decodeRead 6 s,
    ⟨_, BitVec.toNat_setWidth_of_le (by decide), exec_decodeRead 7 s⟩,
    ⟨_, BitVec.toNat_setWidth_of_le (by decide), exec_decodeRead 8 s⟩,
    exec_decodeRead 9 s, exec_decodeRead 10 s, ⟨_, posWord_toNat s, exec_decodeRead 11 s⟩,
    exec_decodeRead 12 s, exec_decodeRead 13 s⟩

/-- The addresses of LOADDATA and CMD and of the two reserved words (10_state.md R32). -/
def unreadableAddresses : List (BitVec 4) := [3, 4, 14, 15]

theorem readRegister_unreadable {a : BitVec 4} (unreadable : a ∈ unreadableAddresses) (s : State) :
    readRegister a s = 0 := by
  simp only [unreadableAddresses, List.mem_cons, List.not_mem_nil, or_false] at unreadable
  rcases unreadable with rfl | rfl | rfl | rfl <;> rfl

/-- Settles O44: the four reads are those of the unreadable addresses. -/
theorem writeOnlyAndReservedReadZero : Obligations.WriteOnlyAndReservedReadZero := by
  refine ⟨fun s i listed => ?_, encode_decodeRead 3, encode_decodeRead 4, encode_decodeRead 14, encode_decodeRead 15⟩
  obtain ⟨a, unreadable, rfl⟩ : ∃ a ∈ unreadableAddresses, decodeRead a = i := List.mem_map.mp listed
  rw [exec_decodeRead, readRegister_unreadable unreadable]
  rfl

/-! ## The writes -/

/-- Settles O45: PHASE_OFFSET is the low half of WDATA. -/
theorem wrCtrlReplacesThreeFields : Obligations.WrCtrlReplacesThreeFields :=
  fun _ d => ⟨phaseOffsetField d, BitVec.extractLsb'_toNat .., rfl⟩

/-- The host registers are the two interrupt enables and the sticky flag of every cause (10_state.md R27). -/
theorem hostRegs_ext {h k : HostRegs} (swapIe : h.swapIe = k.swapIe) (faultIe : h.faultIe = k.faultIe)
    (flags : ∀ c, stickyFlag c h = stickyFlag c k) : h = k := by
  cases h
  cases k
  congr 1
  · exact flags .swapped
  · exact flags .short
  · exact flags .long
  · exact flags .timeout
  · exact flags .loadOvf

/-- Settles O46, one cause at a time. -/
theorem wrStatusClearsSelectedFlags : Obligations.WrStatusClearsSelectedFlags := by
  intro s d
  refine congrArg (fun hb => Host.Outcome.next { s with hb := hb }) ?_
  refine hostRegs_ext rfl rfl fun c => ?_
  rw [stickyFlag_clearSticky, clearMask_getLsbD]
  cases c <;> rfl

/-- The addresses of the nine read-only registers and of the two reserved words (10_state.md R32). -/
def ignoringAddresses : List (BitVec 4) := [5, 6, 7, 8, 9, 10, 11, 12, 13, 14, 15]

theorem ignoringAddresses_ge : ∀ a ∈ ignoringAddresses, 5 ≤ a.toNat := by decide

/-- A write above CMD does nothing (R143, R145). -/
theorem exec_decodeWrite_of_ge {a : BitVec 4} (aboveCmd : 5 ≤ a.toNat) (d : Word) (s : State) :
    exec (decodeWrite a d) s = .next s := by
  obtain ⟨⟨n, hn⟩⟩ := a
  change 5 ≤ n at aboveCmd
  interval_cases n <;> rfl

/-- Settles O47: the eleven writes are those of the addresses above CMD. -/
theorem ignoredWritesChangeNothing : Obligations.IgnoredWritesChangeNothing := by
  refine ⟨fun s d i listed => ?_, fun s w sel we aboveCmd => ?_⟩
  · obtain ⟨a, ignoring, rfl⟩ : ∃ a ∈ ignoringAddresses, decodeWrite a d = i := List.mem_map.mp listed
    exact exec_decodeWrite_of_ge (ignoringAddresses_ge a ignoring) d s
  · rw [decode_of_write sel we]
    exact exec_decodeWrite_of_ge aboveCmd w.wdata s

end Sys2Proof.Machine

/-! The proofs of the statements of 60_exceptions.md: the life of a sticky flag (R153), and the events of one cycle, which
exclude each other (R147, R149, R156). -/

namespace Sys2Proof.Machine

/-! ## What each part of a cycle does to the flags and to `setmask` -/

/-- The block has set the flag of this cause in the cycle under way (60_exceptions.md R153). -/
def setThisCycle (c : Cause) (s : State) : Bool := s.wires.setmask.getLsbD (causeBit c)

theorem setThisCycle_of_clear {s : State} (clear : s.wires.setmask = 0) (c : Cause) : setThisCycle c s = false := by
  rw [setThisCycle, clear]
  exact BitVec.getLsbD_zero

/-- Nothing is raised between two states, and nothing acknowledged. -/
structure SameFlags (s t : State) : Prop where
  flags : ∀ d, stickyFlag d t.hb = stickyFlag d s.hb
  mask : t.wires.setmask = s.wires.setmask

/-- Between two states the one cause is raised: its flag, and its record (00_scope.md R15). -/
structure Raises (c : Cause) (s t : State) : Prop where
  flags : ∀ d, stickyFlag d t.hb = (decide (c = d) || stickyFlag d s.hb)
  mask : t.wires.setmask = s.wires.setmask ||| causeMask c

theorem sameFlags_of_eq {s t : State} (hb : t.hb = s.hb) (mask : t.wires.setmask = s.wires.setmask) : SameFlags s t :=
  ⟨fun d => congrArg (stickyFlag d) hb, mask⟩

theorem raises_of_setSticky {c : Cause} {s t : State} (hb : t.hb = setSticky c s.hb)
    (mask : t.wires.setmask = s.wires.setmask ||| causeMask c) : Raises c s t :=
  ⟨fun d => (congrArg (stickyFlag d) hb).trans (stickyFlag_setSticky ..), mask⟩

theorem SameFlags.trans {s m t : State} (first : SameFlags s m) (second : SameFlags m t) : SameFlags s t :=
  ⟨fun d => (second.flags d).trans (first.flags d), second.mask.trans first.mask⟩

theorem Raises.after_same {c : Cause} {s m t : State} (second : Raises c m t) (first : SameFlags s m) :
    Raises c s t :=
  ⟨fun d => by rw [second.flags, first.flags], by rw [second.mask, first.mask]⟩

theorem SameFlags.setThisCycle_eq {s t : State} (h : SameFlags s t) (c : Cause) :
    setThisCycle c t = setThisCycle c s := by
  rw [setThisCycle, h.mask, setThisCycle]

theorem Raises.setThisCycle_eq {c : Cause} {s t : State} (h : Raises c s t) (d : Cause) :
    setThisCycle d t = (setThisCycle d s || decide (c = d)) := by
  rw [setThisCycle, h.mask, BitVec.getLsbD_or, causeMask_getLsbD, setThisCycle]

/-- The causes whose response is the idle entry (60_exceptions.md R147). -/
def isSensorFault : Cause → Bool
  | .short | .long | .timeout => true
  | .swapped | .loadOvf => false

/-- Step 2 raises a sensor fault or nothing. -/
theorem pulseTimerPart_flags {s p : State} (hp : pulseTimerPart s = .next p) :
    SameFlags s p ∨ ∃ c, isSensorFault c = true ∧ Raises c s p := by
  obtain ⟨u, hu, hcases⟩ := pulseTimerPart_cases s
  obtain rfl : u = p := Host.Outcome.next.inj (hu.symm.trans hp)
  rcases hcases with ⟨-, -, rfl⟩ | ⟨-, -, -, rfl⟩ | ⟨-, -, -, -, rfl⟩ | ⟨-, -, -, -, rfl⟩ | ⟨-, -, -, rfl⟩ |
    ⟨-, -, rfl⟩
  · exact .inl (sameFlags_of_eq rfl rfl)
  · exact .inr ⟨.short, rfl, raises_of_setSticky rfl rfl⟩
  · exact .inr ⟨.long, rfl, raises_of_setSticky rfl rfl⟩
  · exact .inl (sameFlags_of_eq rfl rfl)
  · exact .inr ⟨.timeout, rfl, raises_of_setSticky rfl rfl⟩
  · exact .inl (sameFlags_of_eq rfl rfl)

theorem pixelTimer_setmask (s : State) : (pixelTimer s).wires.setmask = s.wires.setmask := by
  rcases pixelTimer_cases s with ⟨-, fires⟩ | ⟨-, -, holds⟩ | ⟨-, -, -, counts⟩
  · rw [fires]; rfl
  · rw [holds]
  · rw [counts]

/-- The arbiter raises SWAPPED, at a frame start, or nothing (41_pixel_clock.md R99, 42_frame_store.md R107). -/
theorem arbitrate_flags (s : State) :
    SameFlags s (arbitrate s) ∨ (Raises .swapped s (arbitrate s) ∧ (arbitrate s).wires.frameStart = true) := by
  unfold arbitrate
  dsimp only
  split_ifs with swaps
  · obtain ⟨start, -⟩ := Bool.and_eq_true_iff.mp swaps
    exact .inr ⟨raises_of_setSticky rfl rfl, start⟩
  · exact .inl (sameFlags_of_eq rfl rfl)

/-- Steps 3 and 4 raise SWAPPED, in a tick at a frame start, or nothing. -/
theorem pixelClockPart_flags {s t : State} (ht : pixelClockPart s = .next t) :
    SameFlags s t ∨ (Raises .swapped s t ∧ t.wires.frameStart = true ∧ t.wires.tick = true) := by
  rcases pixelClockPart_next ht with ⟨-, rfl⟩ | ⟨tick, ticked⟩
  · exact .inl (sameFlags_of_eq (pixelTimer_hb s) (pixelTimer_setmask s))
  · have aligned : SameFlags s (alignIndex (pixelTimer s)) :=
      sameFlags_of_eq (by simp) (by simp [pixelTimer_setmask])
    have tick_end : t.wires.tick = true := (execEvTick_wires_tick ticked).trans tick
    obtain ⟨d, n, -, rfl⟩ := execEvTick_next ticked
    rcases arbitrate_flags (alignIndex (pixelTimer s)) with ⟨flags, mask⟩ | ⟨⟨flags, mask⟩, start⟩
    · exact .inl (aligned.trans ⟨flags, mask⟩)
    · exact .inr ⟨Raises.after_same ⟨flags, mask⟩ aligned, start, tick_end⟩

/-- The transaction is a WR.STATUS, the acknowledgement (44_host_bus.md R131). -/
def writesStatus (w : TxWord) : Bool := w.sel && w.we && w.addr == 1

theorem writesStatus_iff (w : TxWord) : writesStatus w = true ↔ w.sel = true ∧ w.we = true ∧ w.addr = 1 := by
  simp [writesStatus, and_assoc]

theorem writesStatus_of_addr {w : TxWord} {a : BitVec 4} (addr : w.addr = a) (other : a ≠ 1) :
    writesStatus w = false := by
  rw [← Bool.not_eq_true, writesStatus_iff]
  exact fun ⟨_, _, one⟩ => other (addr.symm.trans one)

/-- The end of a cycle acknowledges, if the host writes STATUS, and raises LOADOVF or nothing otherwise. -/
theorem endTransaction_flags {w : TxWord} {s t : State} (ht : endTransaction w s = .next t) :
    (writesStatus w = true ∧ t = acknowledge w.wdata s) ∨
      (writesStatus w = false ∧ (SameFlags s t ∨ Raises .loadOvf s t)) := by
  obtain ⟨u, hu, hcases⟩ := endTransaction_cases w s
  obtain rfl : u = t := Host.Outcome.next.inj (hu.symm.trans ht)
  rcases hcases with ⟨rfl, idle⟩ | ⟨-, -, addr, rfl⟩ | ⟨sel, we, addr, rfl⟩ | ⟨-, -, addr, rfl⟩ |
    ⟨-, -, addr, -, rfl⟩ | ⟨-, -, addr, -, rfl⟩ | ⟨-, -, addr, -, rfl⟩
  · refine .inr ⟨?_, .inl (sameFlags_of_eq rfl rfl)⟩
    rw [← Bool.not_eq_true, writesStatus_iff]
    rintro ⟨sel, we, addr⟩
    simp [sel, we, addr] at idle
  · exact .inr ⟨writesStatus_of_addr addr (by decide), .inl ⟨fun d => by cases d <;> rfl, rfl⟩⟩
  · exact .inl ⟨(writesStatus_iff w).mpr ⟨sel, we, addr⟩, rfl⟩
  · exact .inr ⟨writesStatus_of_addr addr (by decide), .inl (sameFlags_of_eq rfl rfl)⟩
  · exact .inr ⟨writesStatus_of_addr addr (by decide), .inl (sameFlags_of_eq rfl rfl)⟩
  · exact .inr ⟨writesStatus_of_addr addr (by decide), .inr (raises_of_setSticky rfl rfl)⟩
  · exact .inr ⟨writesStatus_of_addr addr (by decide), .inl (sameFlags_of_eq rfl rfl)⟩

/-! ## The life of a sticky flag (R153) -/

/-- Up to this point of a cycle that began with the host registers `h`, a flag is 1 exactly if the cycle set it or it was
1. -/
def FlagsSince (h : HostRegs) (s : State) : Prop := ∀ c, stickyFlag c s.hb = (setThisCycle c s || stickyFlag c h)

theorem FlagsSince.same {h : HostRegs} {s t : State} (since : FlagsSince h s) (same : SameFlags s t) :
    FlagsSince h t := by
  intro c
  rw [same.setThisCycle_eq, same.flags, since]

theorem FlagsSince.raises {h : HostRegs} {c : Cause} {s t : State} (since : FlagsSince h s) (raises : Raises c s t) :
    FlagsSince h t := by
  intro d
  rw [raises.setThisCycle_eq, raises.flags, since, Bool.or_assoc, Bool.or_left_comm]

theorem FlagsSince.pulseTimer {h : HostRegs} {s p : State} (since : FlagsSince h s)
    (hp : pulseTimerPart s = .next p) : FlagsSince h p := by
  rcases pulseTimerPart_flags hp with same | ⟨c, -, raises⟩
  · exact since.same same
  · exact since.raises raises

theorem FlagsSince.pixelClock {h : HostRegs} {s t : State} (since : FlagsSince h s)
    (ht : pixelClockPart s = .next t) : FlagsSince h t := by
  rcases pixelClockPart_flags ht with same | ⟨raises, -⟩
  · exact since.same same
  · exact since.raises raises

/-- Every cycle begins with `setmask` 0. -/
theorem flagsSince_sampledStart (s : State) : FlagsSince s.hb (sampledStart s) := by
  intro c
  rw [setThisCycle_of_clear rfl, Bool.false_or]
  rfl

/-- The STATUS bit of a cause in the word and in its WDATA is the same bit. -/
theorem wdata_getLsbD_causeBit (w : TxWord) (c : Cause) : w.wdata.getLsbD (causeBit c) = w.getLsbD (causeBit c) := by
  have inWdata : causeBit c < 32 := by cases c <;> decide
  rw [TxWord.wdata, BitVec.getLsbD_extractLsb', Nat.zero_add, decide_eq_true inWdata, Bool.true_and]

/-- Set wins: the acknowledgement spares the flags that the cycle set (60_exceptions.md R153). -/
theorem FlagsSince.acknowledged {h : HostRegs} {s : State} (since : FlagsSince h s) (d : Word) (c : Cause) :
    stickyFlag c (acknowledge d s).hb =
      (setThisCycle c s || (stickyFlag c h && !d.getLsbD (causeBit c))) := by
  rw [acknowledge_hb, stickyFlag_clearSticky, clearMask_getLsbD, since c]
  change ((setThisCycle c s || _) && !(_ && !setThisCycle c s)) = _
  cases setThisCycle c s with
  | true => simp
  | false => simp

/-- What the end of a cycle makes of a flag. -/
theorem FlagsSince.hostWrite {h : HostRegs} {w : TxWord} {s t : State} (since : FlagsSince h s)
    (ht : endTransaction w s = .next t) (c : Cause) :
    stickyFlag c t.hb =
      (setThisCycle c t || (stickyFlag c h && !(writesStatus w && w.getLsbD (causeBit c)))) := by
  rcases endTransaction_flags ht with ⟨writes, rfl⟩ | ⟨spares, done⟩
  · rw [since.acknowledged, writes, wdata_getLsbD_causeBit, Bool.true_and]
    rfl
  · rw [spares, Bool.false_and, Bool.not_false, Bool.and_true]
    rcases done with same | raises
    · exact since.same same c
    · exact since.raises raises c

/-- Settles O49, part by part of the cycle. -/
theorem stickyFlagsSetWins : Obligations.StickyFlagsSetWins := by
  intro s t c h
  obtain ⟨-, -, ⟨rst, rfl⟩ | ⟨running, p, q, hp, hq, ht⟩⟩ := step_next h
  · rw [rst, Bool.not_true, Bool.false_and]
    cases c <;> rfl
  · rw [running, Bool.not_false, Bool.true_and]
    exact (((flagsSince_sampledStart s).pulseTimer hp).pixelClock hq).hostWrite ht c

/-! ## The events of one cycle (R147, R149, R156) -/

/-- Steps 3 to 5 raise no sensor fault. -/
theorem setThisCycle_after_pulseTimer {w : TxWord} {p q t : State} (hq : pixelClockPart p = .next q)
    (ht : endTransaction w q = .next t) {c : Cause} (sensor : isSensorFault c = true) :
    setThisCycle c t = setThisCycle c p := by
  have no_raise {d : Cause} (other : isSensorFault d = false) : decide (d = c) = false :=
    decide_eq_false fun same => Bool.false_ne_true (other.symm.trans (same ▸ sensor))
  have clock : setThisCycle c q = setThisCycle c p := by
    rcases pixelClockPart_flags hq with same | ⟨raises, -⟩
    · exact same.setThisCycle_eq c
    · rw [raises.setThisCycle_eq, no_raise rfl, Bool.or_false]
  rcases endTransaction_flags ht with ⟨-, rfl⟩ | ⟨-, same | raises⟩
  · exact clock
  · exact (same.setThisCycle_eq c).trans clock
  · rw [raises.setThisCycle_eq, no_raise rfl, Bool.or_false, clock]

/-- No other part of a cycle than the arbiter's raises SWAPPED, and the arbiter does so at a frame start only
(60_exceptions.md R156). -/
theorem step_swapped {s t : State} (h : step s = .next t) (swapped : setThisCycle .swapped t = true) :
    t.wires.frameStart = true ∧ t.wires.tick = true := by
  obtain ⟨-, -, ⟨-, rfl⟩ | ⟨-, p, q, hp, hq, ht⟩⟩ := step_next h
  · exact absurd ((setThisCycle_of_clear rfl _).symm.trans swapped) Bool.false_ne_true
  · have unset : setThisCycle .swapped p = false := by
      have start : setThisCycle .swapped (sampledStart s) = false := setThisCycle_of_clear rfl _
      rcases pulseTimerPart_flags hp with same | ⟨c, sensor, raises⟩
      · exact (same.setThisCycle_eq _).trans start
      · have other : c ≠ .swapped := by rintro rfl; exact Bool.false_ne_true sensor
        exact (raises.setThisCycle_eq _).trans (by rw [decide_eq_false other]; exact congrArg (· || false) start)
    have set_before : setThisCycle .swapped q = true := by
      rcases endTransaction_flags ht with ⟨-, rfl⟩ | ⟨-, same | raises⟩
      · exact swapped
      · exact (same.setThisCycle_eq _).symm.trans swapped
      · simpa [raises.setThisCycle_eq] using swapped
    rw [(endTransaction_frame ht).wires]
    rcases pixelClockPart_flags hq with same | ⟨-, tick⟩
    · exact absurd (unset.symm.trans ((same.setThisCycle_eq _).symm.trans set_before)) Bool.false_ne_true
    · exact tick

/-- The block at the end of the cycle of an idle entry (60_exceptions.md R149). -/
structure WentIdle (t : State) : Prop where
  tick : t.wires.tick = false
  idle : t.pt.syncValid = false
  unaligned : t.pc.aligned = false
  blank : t.dm = blankDac

/-- A cycle ends without a sensor fault, or with the one whose idle entry it is. -/
inductive CycleEvents (t : State) : Prop where
  | faultless (unset : ∀ c, isSensorFault c = true → setThisCycle c t = false) (stays : t.wires.enterIdle = false)
      (accepts : t.wires.accepted = true → t.wires.pulse = true ∧ t.wires.tick = true)
  | fault (c : Cause) (sensor : isSensorFault c = true)
      (bits : ∀ d, isSensorFault d = true → setThisCycle d t = decide (c = d)) (entered : t.wires.enterIdle = true)
      (unaccepted : t.wires.accepted = false) (pulse : t.wires.pulse = decide (c ≠ .timeout)) (went : WentIdle t)

/-- An accepted pulse comes with its tick (40_pulse_timer.md R76). -/
theorem Clocked.tick_of_accepted {p t : State} (rest : Clocked p t) (accepted : p.wires.accepted = true) :
    t.wires.tick = true := by
  cases rest.outcome with
  | fires _ tick => exact tick
  | holds unaccepted => exact absurd (unaccepted.symm.trans accepted) Bool.false_ne_true
  | counts unaccepted => exact absurd (unaccepted.symm.trans accepted) Bool.false_ne_true

theorem Clocked.wentIdle {c : Cause} {m t : State} (rest : Clocked (takeSensorFault c m) t)
    (unaccepted : m.wires.accepted = false) : WentIdle t := by
  obtain ⟨pc, dm⟩ := rest.holds_of_idle unaccepted rfl
  refine ⟨?_, by rw [rest.pt]; rfl, by rw [pc]; rfl, dm⟩
  cases rest.outcome with
  | holds _ _ tick => exact tick
  | counts _ live => exact absurd live Bool.false_ne_true
  | fires due =>
    rcases due with accepted | ⟨live, -⟩
    · exact absurd (unaccepted.symm.trans accepted) Bool.false_ne_true
    · exact absurd live Bool.false_ne_true

/-- Step 2 took a sensor fault in a cycle with no earlier event: the fault is the cycle's only one. -/
theorem Clocked.faultEvents {c : Cause} {m t : State} (rest : Clocked (takeSensorFault c m) t)
    (kept : ∀ d, isSensorFault d = true → setThisCycle d t = setThisCycle d (takeSensorFault c m))
    (sensor : isSensorFault c = true) (clear : m.wires.setmask = 0) (unaccepted : m.wires.accepted = false)
    (pulse : m.wires.pulse = decide (c ≠ .timeout)) : CycleEvents t := by
  refine .fault c sensor (fun d is_sensor => ?_) rest.enterIdle (rest.accepted.trans unaccepted)
    (rest.pulse.trans pulse) (rest.wentIdle unaccepted)
  have raised : Raises c m (takeSensorFault c m) := raises_of_setSticky rfl rfl
  rw [kept d is_sensor, raised.setThisCycle_eq, setThisCycle_of_clear clear, Bool.false_or]

/-- Step 2 raised nothing: the cycle has no sensor fault, and no acceptance but a pulse's. -/
theorem Clocked.faultlessEvents {p t : State} (rest : Clocked p t)
    (kept : ∀ d, isSensorFault d = true → setThisCycle d t = setThisCycle d p) (clear : p.wires.setmask = 0)
    (stays : p.wires.enterIdle = false) (pulse : p.wires.accepted = true → p.wires.pulse = true) : CycleEvents t := by
  refine .faultless (fun c sensor => (kept c sensor).trans (setThisCycle_of_clear clear c))
    (rest.enterIdle.trans stays) fun accepted => ?_
  have accepted_p : p.wires.accepted = true := rest.accepted.symm.trans accepted
  exact ⟨rest.pulse.trans (pulse accepted_p), rest.tick_of_accepted accepted_p⟩

theorem step_cycleEvents {s t : State} (h : step s = .next t) : CycleEvents t := by
  obtain ⟨-, -, ⟨-, rfl⟩ | ⟨-, p, q, hp, hq, ht⟩⟩ := step_next h
  · exact .faultless (fun c _ => setThisCycle_of_clear rfl c) rfl fun accepted => absurd accepted Bool.false_ne_true
  · have rest : Clocked p t := (pixelClockPart_clocked hq).hostWrite (endTransaction_frame ht)
    have kept (d : Cause) (sensor : isSensorFault d = true) : setThisCycle d t = setThisCycle d p :=
      setThisCycle_after_pulseTimer hq ht sensor
    obtain ⟨u, hu, hcases⟩ := pulseTimerPart_cases (sampledStart s)
    obtain rfl : u = p := Host.Outcome.next.inj (hu.symm.trans hp)
    rcases hcases with ⟨pulse, -, rfl⟩ | ⟨pulse, -, -, rfl⟩ | ⟨pulse, -, -, -, rfl⟩ | ⟨pulse, -, -, -, rfl⟩ |
      ⟨quiet, -, -, rfl⟩ | ⟨-, -, rfl⟩
    · exact rest.faultlessEvents kept rfl rfl fun _ => pulse
    · exact rest.faultEvents kept rfl rfl rfl pulse
    · exact rest.faultEvents kept rfl rfl rfl pulse
    · exact rest.faultlessEvents kept rfl rfl fun _ => pulse
    · exact rest.faultEvents kept rfl rfl rfl quiet
    · exact rest.faultlessEvents kept rfl rfl fun accepted => absurd accepted Bool.false_ne_true

/-- Settles O50, by whether the cycle has a sensor fault, and which. -/
theorem cycleEventsExcludeEachOther : Obligations.CycleEventsExcludeEachOther := by
  intro s t swapSet short long timeout h swap_bit short_bit long_bit timeout_bit
  have swaps (swapped : swapSet = true) : t.wires.frameStart = true ∧ t.wires.tick = true :=
    step_swapped h (swap_bit.symm.trans swapped)
  cases step_cycleEvents h with
  | faultless unset stays accepts =>
    obtain rfl : short = false := short_bit.trans (unset .short rfl)
    obtain rfl : long = false := long_bit.trans (unset .long rfl)
    obtain rfl : timeout = false := timeout_bit.trans (unset .timeout rfl)
    rw [stays]
    have at_most_one : t.wires.accepted.toNat ≤ 1 := Bool.toNat_le _
    exact ⟨by simpa using at_most_one, rfl, by simpa using fun accepted => (accepts accepted).1, nofun,
      fun accepted => (accepts accepted).2, nofun, swaps⟩
  | fault c sensor bits entered unaccepted pulse went =>
    obtain rfl : short = decide (c = .short) := short_bit.trans (bits .short rfl)
    obtain rfl : long = decide (c = .long) := long_bit.trans (bits .long rfl)
    obtain rfl : timeout = decide (c = .timeout) := timeout_bit.trans (bits .timeout rfl)
    have unswapped : swapSet = false := by
      refine Bool.eq_false_iff.mpr fun swapped => ?_
      obtain ⟨-, tick⟩ := swaps swapped
      exact Bool.false_ne_true (went.tick.symm.trans tick)
    have idle : t.wires.tick = false ∧ swapSet = false ∧ t.pt.syncValid = false ∧ t.pc.aligned = false ∧
        t.dm = blankDac := ⟨went.tick, unswapped, went.idle, went.unaligned, went.blank⟩
    rw [entered, unaccepted, pulse]
    cases c with
    | short => exact ⟨by decide, rfl, fun _ => rfl, nofun, nofun, fun _ => idle, swaps⟩
    | long => exact ⟨by decide, rfl, fun _ => rfl, nofun, nofun, fun _ => idle, swaps⟩
    | timeout => exact ⟨by decide, rfl, by simp, fun _ => rfl, nofun, fun _ => idle, swaps⟩
    | swapped => exact absurd sensor Bool.false_ne_true
    | loadOvf => exact absurd sensor Bool.false_ne_true

end Sys2Proof.Machine

/-! The proofs of the statements of 70_reset_and_hazards.md: what a reset cycle does and what it drops (R166), and the
first cycle after power-up (R167). -/

namespace Sys2Proof

/-- The default column of 00_scope.md R9 keeps to the ranges of that rule. -/
theorem Config.defaults_legal : Config.defaults.Legal := by decide

end Sys2Proof

namespace Sys2Proof.Machine

/-! ## The reset cycle (R166) -/

/-- A reset gives the reset state of the configuration, but for the store and the fields that are no elements of the
block (10_state.md R31). -/
theorem resetBlock_eq_resetOf (s : State) :
    resetBlock s =
      { State.resetOf s.cfg with
        store := s.store, wires := s.wires, out := s.out, inputs := s.inputs, cycle := s.cycle, draws := s.draws } :=
  rfl

/-- A reset cycle is a reset of the state its cycle starts in, launched or not. -/
theorem step_of_reset {s : State} (hc : s.cfg.Legal) (rst : (nextInput s).rst = true) :
    step s = .next (resetBlock (cycleStart s)) := by
  rw [step_eq_cycle hc (.inr rst), if_pos rst]

/-! What the start of a cycle keeps for the reset. -/

@[simp] theorem cycleStart_store (s : State) : (cycleStart s).store = s.store := rfl

@[simp] theorem cycleStart_draws (s : State) : (cycleStart s).draws = s.draws := rfl

@[simp] theorem cycleStart_inputs (s : State) : (cycleStart s).inputs = s.inputs.tail := rfl

@[simp] theorem cycleStart_wires (s : State) : (cycleStart s).wires = CycleWires.clear := rfl

@[simp] theorem cycleStart_cycle (s : State) : (cycleStart s).cycle = s.cycle + 1 := rfl

/-- The state after a reset cycle. The word and the sync sample of the cycle stand in it only as read data. -/
theorem step_of_reset_eq {s : State} (hc : s.cfg.Legal) (rst : (nextInput s).rst = true) :
    step s = .next
      { State.resetOf s.cfg with
        store := s.store, wires := CycleWires.clear
        out := { portsOf s with busRdata := busData (nextInput s).word s }
        inputs := s.inputs.tail, cycle := s.cycle + 1, draws := s.draws } := by
  rw [step_of_reset hc rst, resetBlock_eq_resetOf, cycleStart_cfg, cycleStart_store, cycleStart_wires, cycleStart_out,
    cycleStart_inputs, cycleStart_cycle, cycleStart_draws]

/-- Settles O10. -/
theorem resetCycleOnlyResets : Obligations.ResetCycleOnlyResets :=
  fun _ hc rst => ⟨_, step_of_reset_eq hc rst, rfl, rfl, rfl, rfl, rfl, rfl, rfl, rfl, rfl, rfl, rfl⟩

/-! ## The first cycle after power-up (R167) -/

/-- A machine that no reset has launched takes no running cycle. -/
theorem step_refused_of_unlaunched {s : State} (hc : s.cfg.Legal) (unlaunched : s.launched = false)
    (running : (nextInput s).rst = false) : step s = .refused .runNotStartedByReset := by
  rw [step, if_pos hc, if_pos (by simp [unlaunched, running])]

/-- Settles O8. -/
theorem runMustStartWithReset : Obligations.RunMustStartWithReset :=
  fun _ hc unlaunched => ⟨step_refused_of_unlaunched hc unlaunched,
    fun rst => ⟨_, step_of_reset_eq hc rst, rfl, rfl, rfl, rfl, rfl, rfl, rfl, rfl⟩⟩

/-- Settles O11: no element but the store outlives the reset, and at power-up the store is empty. -/
theorem resetStateFollowsPowerUp : Obligations.ResetStateFollowsPowerUp :=
  fun _ _ _ _ =>
    ⟨_, step_of_reset_eq Config.defaults_legal rfl, rfl, rfl, rfl, rfl, rfl, rfl, rfl, rfl, rfl, rfl⟩

end Sys2Proof.Machine

/-! The proof of the statement of 00_scope.md on the configuration (R10). -/

namespace Sys2Proof.Machine

/-! ## An illegal configuration (R10) -/

/-- Settles O7: `step` tests the configuration before anything else, so an illegal one is refused whether or not the
machine was launched and whatever the inputs of the cycle are. -/
theorem illegalConfigurationIsRefused : Obligations.IllegalConfigurationIsRefused := by
  intro s illegal
  rw [step, if_neg illegal]

end Sys2Proof.Machine
